-- ==== Sys2Proof/Word.lean ====
section
/-! DEFINITION. The word types of the unit: its data width and its address width (R11, R12).
Everything that takes a word apart or puts one together stands in Machine/Bits.lean. -/

namespace Sys2Proof

/-- `u8`: the data width of the unit (R11, R12). -/
abbrev Byte := BitVec 8

/-- `u16`: the address width of the unit, and the width of `pc` (R11, R12, R20). -/
abbrev Addr := BitVec 16

end Sys2Proof
end

