-- ==== Sys2Proof/Machine/Bits.lean ====
section
/-! DEFINITION. Putting words together and taking them apart: concatenation, the two bytes of an address, zero and
sign extension (R12, R13). -/

namespace Sys2Proof.Machine

open Sys2Proof

/-- `{h, l}`: the `u16` whose high byte is `h` (R12). -/
def concat (h l : Byte) : Addr := h ++ l

/-- Bits [15:8] of an address. -/
def highByte (t : Addr) : Byte := t.extractLsb' 8 8

/-- Bits [7:0] of an address. -/
def lowByte (t : Addr) : Byte := t.extractLsb' 0 8

/-- `zext_16` (R13). -/
def zext16 (v : Byte) : Addr := v.setWidth 16

/-- `sext_16`, the document's `signed_8bit` (R13). -/
def sext16 (v : Byte) : Addr := v.signExtend 16

end Sys2Proof.Machine
end

