-- ==== Sys2Proof/Config.lean ====
section
/-! DEFINITION. The parameters of the block (R11). All are fixed by the spec but DECIMAL_POLICY, which it
leaves OPEN with the default `binary`: that one is an argument of the model (Machine/Parameter.lean). The unit has no undefined value (93_implementation_defined.md
section 1), so nothing here is a free value. -/

namespace Sys2Proof

/-- DECIMAL_POLICY (R112, D4): what ADC and SBC do while `P.D = 1`. -/
inductive DecimalPolicy where
  /-- ADC and SBC compute in binary whatever `P.D` is. -/
  | binary
  /-- ADC and SBC executed while `P.D = 1` are given no meaning. -/
  | refuse
  deriving DecidableEq, Repr

/-- DESIGN CHOICE (log 3): the policy at which `exec`, `step` and `core`, whose types the host fixes, stand: the spec's
default, `binary` (R11). `execUnder`, `stepUnder` and `coreUnder` take any policy. -/
def Config.decimalPolicy : DecimalPolicy := .binary

/-- STACK_PAGE (R11, R62): the stack bytes are at 0x0100 to 0x01FF. -/
def Config.stackPage : Byte := 0x01

end Sys2Proof
end

