-- ==== Sys2Proof/Machine/State.lean ====
section
/-! DEFINITION. The state of the unit (10_state.md), the reasons a step could stop, and the state after reset.
State is plain data: every piece of state that the spec names and nothing else. -/

namespace Sys2Proof.Machine

open Sys2Proof

/-- The status register `P`: eight separate one-bit flags (R27), 1 read as true (R12). -/
structure Status where
  /-- `P.C`, Carry. -/
  c : Bool
  /-- `P.Z`, Zero. -/
  z : Bool
  /-- `P.I`, InterruptDisable: storage only (R30). -/
  i : Bool
  /-- `P.D`, Decimal. -/
  d : Bool
  /-- `P.B`, Break: set by BRK only (R30). -/
  b : Bool
  /-- `P.U`, Unused: always 1 (R28). -/
  u : Bool
  /-- `P.V`, Overflow. -/
  v : Bool
  /-- `P.N`, Negative. -/
  n : Bool
  deriving DecidableEq, Repr

/-- `run_state` (R34). -/
inductive RunState where
  | running
  | halted
  deriving DecidableEq, Repr

/-- `halt_cause` (R34): why the unit is Halted. -/
inductive HaltCause where
  | none
  | brk
  | illegal
  deriving DecidableEq, Repr

/-- `phase` (R35): whether a step has happened since reset. -/
inductive Phase where
  | loading
  | stepping
  deriving DecidableEq, Repr

/-- The result of a step (R77): `Continue`, `Halt`, `IllegalOpcode`. It is an output, not stored state (R37). -/
inductive StepResult where
  | continues
  | halt
  | illegalOpcode
  deriving DecidableEq, Repr

/-- The memory of the unit as data: (address, byte) pairs in the canonical form of `Memory.wf`
(Machine/Ops.lean). An address that is not listed reads 0x00 (R40, R51). -/
abbrev Memory := List Host.Cell

/-- The state of one instance of the unit (R10, R20, R27, R34 to R36). -/
structure State where
  /-- ProgramCounter: between steps, the address of the next opcode byte (R25). -/
  pc : Addr
  /-- StackPointer: an offset into the stack page (R24). -/
  sp : Byte
  /-- Accumulator (R21). -/
  a : Byte
  /-- IndexX (R22). -/
  x : Byte
  /-- IndexY (R23). -/
  y : Byte
  /-- StatusFlags (R27). -/
  p : Status
  /-- The 65536 bytes of memory (R36). -/
  mem : Memory
  /-- `run_state` (R34). -/
  runState : RunState
  /-- `halt_cause` (R34). -/
  haltCause : HaltCause
  /-- `fault_opcode`: the opcode byte of the illegal-opcode step (R34, R231). -/
  faultOpcode : Byte
  /-- `fault_pc`: the address of that byte (R34, R231). -/
  faultPc : Addr
  /-- `phase` (R35). -/
  phase : Phase
  deriving DecidableEq, Repr

/-- The reasons a step could stop with a fault: none. `IllegalOpcode`, the one exception of the unit, is TAKEN: it
leads to a next state that is Halted and holds the fault report (R222, R231; log 1). Nothing else faults
(R232), and `OutOfBoundsAccess` is never raised (R65). Safe: no behaviour is lost by having no constructor. -/
inductive Fault where
  deriving DecidableEq, Repr

/-- The reasons for which the model gives no meaning. -/
inductive Refusal where
  /-- Raised by an arm of `exec` whose instruction has no meaning yet: no arm is one now. Safe. -/
  | notModelled (mnemonic : String)
  /-- Raised by ADC and SBC executed while `P.D = 1` under DECIMAL_POLICY = `refuse` (R112). Raised by
  `execUnder` and `stepUnder` at `refuse`, never by `exec` and `step`, which stand at the default (log 3). Safe: it errs toward unprovable. -/
  | decimalMode
  /-- Raised by `hostLoad` when the host writes memory after the first step, which is outside the modelled interface
  (R7, D9). No step raises it. Safe. -/
  | hostWriteAfterFirstStep
  deriving DecidableEq, Repr

/-- What an instruction leads to. -/
abbrev Result := Host.Outcome State Fault Refusal

/-- The flags after reset: only Unused is set (R40). -/
def Status.reset : Status :=
  { c := false, z := false, i := false, d := false, b := false, u := true, v := false, n := false }

/-- The state right after reset (R40, R251): every value is the spec's. -/
def State.reset : State :=
  { pc := 0x0000, sp := 0x00, a := 0x00, x := 0x00, y := 0x00
    p := Status.reset
    mem := []
    runState := .running, haltCause := .none
    faultOpcode := 0x00, faultPc := 0x0000
    phase := .loading }

end Sys2Proof.Machine
end

