-- ==== Sys2Proof/Machine/Flags.lean ====
section
/-! DEFINITION. Every flag computation of the unit: writing single flags, `SetNZ` (R31), the packed status byte (R32,
R33), the adder with its carry and overflow (R110), and the comparison (R195). -/

namespace Sys2Proof.Machine

open Sys2Proof

/-- `P <- p`. -/
def State.setP (p : Status) (s : State) : State := { s with p := p }

/-- `P.C <- v`. -/
def State.setC (v : Bool) (s : State) : State := { s with p := { s.p with c := v } }

/-- `P.Z <- v`. -/
def State.setZ (v : Bool) (s : State) : State := { s with p := { s.p with z := v } }

/-- `P.I <- v`. -/
def State.setI (v : Bool) (s : State) : State := { s with p := { s.p with i := v } }

/-- `P.D <- v`. -/
def State.setD (v : Bool) (s : State) : State := { s with p := { s.p with d := v } }

/-- `P.B <- v`. -/
def State.setB (v : Bool) (s : State) : State := { s with p := { s.p with b := v } }

/-- `P.V <- v`. -/
def State.setV (v : Bool) (s : State) : State := { s with p := { s.p with v := v } }

/-- `P.N <- v`. -/
def State.setN (v : Bool) (s : State) : State := { s with p := { s.p with n := v } }

/-- `SetNZ(v)` (R31): Zero and Negative from a result, no other flag. -/
def State.setNZ (v : Byte) (s : State) : State :=
  { s with p := { s.p with z := v == 0, n := v.getLsbD 7 } }

/-- `PackP(b)` (R32): bits 0 to 7 are C, Z, I, D, `b`, 1, V, N. -/
def packP (b : Bool) (p : Status) : Byte :=
  BitVec.ofBool p.n ++ BitVec.ofBool p.v ++ BitVec.ofBool true ++ BitVec.ofBool b ++
    BitVec.ofBool p.d ++ BitVec.ofBool p.i ++ BitVec.ofBool p.z ++ BitVec.ofBool p.c

/-- `UnpackP(v)` (R33): six flags from bits 0, 1, 2, 3, 6, 7; Break and Unused keep their values. -/
def unpackP (v : Byte) (p : Status) : Status :=
  { c := v.getLsbD 0, z := v.getLsbD 1, i := v.getLsbD 2, d := v.getLsbD 3
    b := p.b, u := p.u
    v := v.getLsbD 6, n := v.getLsbD 7 }

/-- The outputs of the adder: result, carry out, overflow (R110). -/
structure AdderOut where
  r    : Byte
  cout : Bool
  v    : Bool
  deriving DecidableEq, Repr

/-- `AddCore(a, m, c)` (R110): the 9-bit sum, its low byte, its ninth bit, and overflow when both operands have one sign
and the result has the other. -/
def addCore (a m : Byte) (c : Bool) : AdderOut :=
  let sum : BitVec 9 := a.setWidth 9 + m.setWidth 9 + (BitVec.ofBool c).setWidth 9
  let r : Byte := sum.setWidth 8
  { r := r
    cout := sum.getLsbD 8
    v := a.getLsbD 7 == m.getLsbD 7 && r.getLsbD 7 != a.getLsbD 7 }

/-- `CompareCore(reg, m)` (R195): Carry, Zero and Negative of `reg - m`; nothing else is written. -/
def compareCore (reg m : Byte) (s : State) : State :=
  let o := addCore reg (~~~m) true
  (s.setC o.cout).setNZ o.r

end Sys2Proof.Machine
end

