-- ==== Sys2Proof/Machine/Ops.lean ====
section
/-! DEFINITION. The named operations over memory and registers, the stack, the illegal-opcode exception and what stands
beside it: the halt of BRK and the return of RTI. Everything that reads or writes State goes through these. -/

namespace Sys2Proof.Machine

open Sys2Proof

/-! ## Memory as data -/

/-- The byte that an unlisted address reads as: memory is zeroed at reset (R40, R51). -/
def Memory.unlisted : Byte := 0x00

/-- The byte at an address: the listed one, else the reset contents (R51). -/
def Memory.read : Memory → Nat → Byte
  | [], _ => Memory.unlisted
  | (k, w) :: rest, adr => if k = adr then w else Memory.read rest adr

/-- Replace the byte at an address and no other (R51), keeping the canonical form: a byte equal to the reset contents
is not listed. -/
def Memory.write : Memory → Nat → Byte → Memory
  | [], adr, v => if v = Memory.unlisted then [] else [(adr, v)]
  | (k, w) :: rest, adr, v =>
    if adr < k then
      if v = Memory.unlisted then (k, w) :: rest else (adr, v) :: (k, w) :: rest
    else if adr = k then
      if v = Memory.unlisted then rest else (adr, v) :: rest
    else (k, w) :: Memory.write rest adr v

/-- Every listed address is at least `low`, addresses rise strictly and lie in the address space (R50), and no listed
byte is the one an unlisted address reads as. -/
def Memory.wfFrom : Nat → Memory → Bool
  | _, [] => true
  | low, (k, w) :: rest =>
    low ≤ k && k < 65536 && w != Memory.unlisted && Memory.wfFrom (k + 1) rest

/-- The canonical form of memory. -/
def Memory.wf (m : Memory) : Bool := Memory.wfFrom 0 m

/-! ## Memory and registers of a state -/

/-- `MemRead(adr, 1)` (R14, R51). -/
def State.read (s : State) (adr : Addr) : Byte := Memory.read s.mem adr.toNat

/-- `MemWrite(adr, 1, v)` (R14, R51). -/
def State.write (adr : Addr) (v : Byte) (s : State) : State :=
  { s with mem := Memory.write s.mem adr.toNat v }

/-- `Read16(lo_addr, hi_addr)` (R57): the caller gives both addresses. -/
def State.read16 (s : State) (loAddr hiAddr : Addr) : Addr :=
  concat (s.read hiAddr) (s.read loAddr)

/-- `A <- v`. -/
def State.setA (v : Byte) (s : State) : State := { s with a := v }

/-- `X <- v`. -/
def State.setX (v : Byte) (s : State) : State := { s with x := v }

/-- `Y <- v`. -/
def State.setY (v : Byte) (s : State) : State := { s with y := v }

/-- `SP <- v`. -/
def State.setSp (v : Byte) (s : State) : State := { s with sp := v }

/-- `pc <- t`. -/
def State.setPc (t : Addr) (s : State) : State := { s with pc := t }

/-- The address `n` bytes after the opcode byte, modulo 65536: `next` when `n` is the instruction's length (R25, R75). -/
def State.after (s : State) (n : Nat) : Addr := s.pc + BitVec.ofNat 16 n

/-- `pc <- next`, for an instruction of `n` bytes that does not set the program counter itself (R26, R75). -/
def State.advance (n : Nat) (s : State) : State := s.setPc (s.after n)

/-! ## The stack (R62 to R64) -/

/-- The stack byte that `SP` designates (R62). -/
def stackAddr (sp : Byte) : Addr := concat Config.stackPage sp

/-- `Push(v)` (R63): write where `SP` points, then move `SP` down modulo 256. -/
def State.push (v : Byte) (s : State) : State :=
  (s.write (stackAddr s.sp) v).setSp (s.sp - 1)

/-- The byte `Pull()` returns (R64): `SP` has moved up, modulo 256, before the read. -/
def State.pulled (s : State) : Byte := s.read (stackAddr (s.sp + 1))

/-- The state after `Pull()` (R64). -/
def State.pull (s : State) : State := s.setSp (s.sp + 1)

/-! ## The exception, the halt, and the return -/

/-- `raise IllegalOpcode(op, adr)` (R222, R231, R235): the fault report is written and the unit is Halted. No register, flag
or memory byte changes, and `pc` stays on the offending byte. No handler, no vector, no push. -/
def State.raiseIllegalOpcode (op : Byte) (adr : Addr) (s : State) : State :=
  { s with faultOpcode := op, faultPc := adr, runState := .halted, haltCause := .illegal }

/-- What BRK does besides advancing `pc` (R221): the Break flag is set and the unit is Halted. Nothing is pushed and no
vector is read. -/
def State.haltByBreak (s : State) : State :=
  { s.setB true with runState := .halted, haltCause := .brk }

/-- What RTI does (R189): pull the status, then the program counter, low byte first, adding nothing. The unit never
pushes such a frame itself (R237). -/
def State.returnFromInterrupt (s : State) : State :=
  let s := (s.pull).setP (unpackP s.pulled s.p)
  let l := s.pulled
  let s := s.pull
  let h := s.pulled
  let s := s.pull
  s.setPc (concat h l)

end Sys2Proof.Machine
end

