-- ==== Sys2Proof/Syntax.lean ====
section
/-! DEFINITION. The instruction set as syntax: the 56 mnemonics, the 13 addressing modes, and `Instr`, one
constructor for each of the 151 rows of spec/opcode_table.json (R78, R79). `b1` and `b2` are the operand
bytes of R70: `b1` is the byte after the opcode, `b2` the one after it. -/

namespace Sys2Proof

/-- The operation tag of a dispatch record: one of the 56 mnemonics (R73, R79). -/
inductive Mnemonic where
  | adc | sbc | and | ora | eor | bit | lda | ldx
  | ldy | sta | stx | sty | tax | tay | txa | tya
  | tsx | txs | bcc | bcs | beq | bne | bmi | bpl
  | bvc | bvs | pha | php | pla | plp | clc | sec
  | cli | sei | cld | sed | clv | jmp | jsr | rts
  | rti | cmp | cpx | cpy | asl | lsr | rol | ror
  | inc | dec | inx | iny | dex | dey | nop | brk
  deriving DecidableEq, Repr

/-- The addressing-mode tag of a dispatch record: the closed set of 13 modes (R82). -/
inductive Mode where
  | implied | accumulator | immediate | zeroPage | zeroPageX | zeroPageY | relative
  | absolute | absoluteX | absoluteY | indirect | indexedIndirect | indirectIndexed
  deriving DecidableEq, Repr

/-- How many operand bytes follow the opcode byte in each mode (R82). -/
def Mode.operandBytes : Mode → Nat
  | .implied | .accumulator => 0
  | .immediate | .zeroPage | .zeroPageX | .zeroPageY | .relative
  | .indexedIndirect | .indirectIndexed => 1
  | .absolute | .absoluteX | .absoluteY | .indirect => 2

/-- One instruction with its operand bytes. A mnemonic that has several encodings has one constructor for each:
its addressing mode is the constructor's suffix. -/
inductive Instr where
  /-- `ADC #$nn`, opcode 69 (R111, mode R93). -/
  | adcImm (b1 : Byte)
  /-- `ADC $nn`, opcode 65 (R111, mode R94). -/
  | adcZp (b1 : Byte)
  /-- `ADC $nn,X`, opcode 75 (R111, mode R95). -/
  | adcZpX (b1 : Byte)
  /-- `ADC $nnnn`, opcode 6D (R111, mode R98). -/
  | adcAbs (b1 b2 : Byte)
  /-- `ADC $nnnn,X`, opcode 7D (R111, mode R99). -/
  | adcAbsX (b1 b2 : Byte)
  /-- `ADC $nnnn,Y`, opcode 79 (R111, mode R100). -/
  | adcAbsY (b1 b2 : Byte)
  /-- `ADC ($nn,X)`, opcode 61 (R111, mode R102). -/
  | adcIndX (b1 : Byte)
  /-- `ADC ($nn),Y`, opcode 71 (R111, mode R103). -/
  | adcIndY (b1 : Byte)
  /-- `SBC #$nn`, opcode E9 (R113, mode R93). -/
  | sbcImm (b1 : Byte)
  /-- `SBC $nn`, opcode E5 (R113, mode R94). -/
  | sbcZp (b1 : Byte)
  /-- `SBC $nn,X`, opcode F5 (R113, mode R95). -/
  | sbcZpX (b1 : Byte)
  /-- `SBC $nnnn`, opcode ED (R113, mode R98). -/
  | sbcAbs (b1 b2 : Byte)
  /-- `SBC $nnnn,X`, opcode FD (R113, mode R99). -/
  | sbcAbsX (b1 b2 : Byte)
  /-- `SBC $nnnn,Y`, opcode F9 (R113, mode R100). -/
  | sbcAbsY (b1 b2 : Byte)
  /-- `SBC ($nn,X)`, opcode E1 (R113, mode R102). -/
  | sbcIndX (b1 : Byte)
  /-- `SBC ($nn),Y`, opcode F1 (R113, mode R103). -/
  | sbcIndY (b1 : Byte)
  /-- `AND #$nn`, opcode 29 (R120, mode R93). -/
  | andImm (b1 : Byte)
  /-- `AND $nn`, opcode 25 (R120, mode R94). -/
  | andZp (b1 : Byte)
  /-- `AND $nn,X`, opcode 35 (R120, mode R95). -/
  | andZpX (b1 : Byte)
  /-- `AND $nnnn`, opcode 2D (R120, mode R98). -/
  | andAbs (b1 b2 : Byte)
  /-- `AND $nnnn,X`, opcode 3D (R120, mode R99). -/
  | andAbsX (b1 b2 : Byte)
  /-- `AND $nnnn,Y`, opcode 39 (R120, mode R100). -/
  | andAbsY (b1 b2 : Byte)
  /-- `AND ($nn,X)`, opcode 21 (R120, mode R102). -/
  | andIndX (b1 : Byte)
  /-- `AND ($nn),Y`, opcode 31 (R120, mode R103). -/
  | andIndY (b1 : Byte)
  /-- `ORA #$nn`, opcode 09 (R121, mode R93). -/
  | oraImm (b1 : Byte)
  /-- `ORA $nn`, opcode 05 (R121, mode R94). -/
  | oraZp (b1 : Byte)
  /-- `ORA $nn,X`, opcode 15 (R121, mode R95). -/
  | oraZpX (b1 : Byte)
  /-- `ORA $nnnn`, opcode 0D (R121, mode R98). -/
  | oraAbs (b1 b2 : Byte)
  /-- `ORA $nnnn,X`, opcode 1D (R121, mode R99). -/
  | oraAbsX (b1 b2 : Byte)
  /-- `ORA $nnnn,Y`, opcode 19 (R121, mode R100). -/
  | oraAbsY (b1 b2 : Byte)
  /-- `ORA ($nn,X)`, opcode 01 (R121, mode R102). -/
  | oraIndX (b1 : Byte)
  /-- `ORA ($nn),Y`, opcode 11 (R121, mode R103). -/
  | oraIndY (b1 : Byte)
  /-- `EOR #$nn`, opcode 49 (R122, mode R93). -/
  | eorImm (b1 : Byte)
  /-- `EOR $nn`, opcode 45 (R122, mode R94). -/
  | eorZp (b1 : Byte)
  /-- `EOR $nn,X`, opcode 55 (R122, mode R95). -/
  | eorZpX (b1 : Byte)
  /-- `EOR $nnnn`, opcode 4D (R122, mode R98). -/
  | eorAbs (b1 b2 : Byte)
  /-- `EOR $nnnn,X`, opcode 5D (R122, mode R99). -/
  | eorAbsX (b1 b2 : Byte)
  /-- `EOR $nnnn,Y`, opcode 59 (R122, mode R100). -/
  | eorAbsY (b1 b2 : Byte)
  /-- `EOR ($nn,X)`, opcode 41 (R122, mode R102). -/
  | eorIndX (b1 : Byte)
  /-- `EOR ($nn),Y`, opcode 51 (R122, mode R103). -/
  | eorIndY (b1 : Byte)
  /-- `BIT $nn`, opcode 24 (R123, mode R94). -/
  | bitZp (b1 : Byte)
  /-- `BIT $nnnn`, opcode 2C (R123, mode R98). -/
  | bitAbs (b1 b2 : Byte)
  /-- `LDA #$nn`, opcode A9 (R131, mode R93). -/
  | ldaImm (b1 : Byte)
  /-- `LDA $nn`, opcode A5 (R131, mode R94). -/
  | ldaZp (b1 : Byte)
  /-- `LDA $nn,X`, opcode B5 (R131, mode R95). -/
  | ldaZpX (b1 : Byte)
  /-- `LDA $nnnn`, opcode AD (R131, mode R98). -/
  | ldaAbs (b1 b2 : Byte)
  /-- `LDA $nnnn,X`, opcode BD (R131, mode R99). -/
  | ldaAbsX (b1 b2 : Byte)
  /-- `LDA $nnnn,Y`, opcode B9 (R131, mode R100). -/
  | ldaAbsY (b1 b2 : Byte)
  /-- `LDA ($nn,X)`, opcode A1 (R131, mode R102). -/
  | ldaIndX (b1 : Byte)
  /-- `LDA ($nn),Y`, opcode B1 (R131, mode R103). -/
  | ldaIndY (b1 : Byte)
  /-- `LDX #$nn`, opcode A2 (R132, mode R93). -/
  | ldxImm (b1 : Byte)
  /-- `LDX $nn`, opcode A6 (R132, mode R94). -/
  | ldxZp (b1 : Byte)
  /-- `LDX $nn,Y`, opcode B6 (R132, mode R96). -/
  | ldxZpY (b1 : Byte)
  /-- `LDX $nnnn`, opcode AE (R132, mode R98). -/
  | ldxAbs (b1 b2 : Byte)
  /-- `LDX $nnnn,Y`, opcode BE (R132, mode R100). -/
  | ldxAbsY (b1 b2 : Byte)
  /-- `LDY #$nn`, opcode A0 (R133, mode R93). -/
  | ldyImm (b1 : Byte)
  /-- `LDY $nn`, opcode A4 (R133, mode R94). -/
  | ldyZp (b1 : Byte)
  /-- `LDY $nn,X`, opcode B4 (R133, mode R95). -/
  | ldyZpX (b1 : Byte)
  /-- `LDY $nnnn`, opcode AC (R133, mode R98). -/
  | ldyAbs (b1 b2 : Byte)
  /-- `LDY $nnnn,X`, opcode BC (R133, mode R99). -/
  | ldyAbsX (b1 b2 : Byte)
  /-- `STA $nn`, opcode 85 (R134, mode R94). -/
  | staZp (b1 : Byte)
  /-- `STA $nn,X`, opcode 95 (R134, mode R95). -/
  | staZpX (b1 : Byte)
  /-- `STA $nnnn`, opcode 8D (R134, mode R98). -/
  | staAbs (b1 b2 : Byte)
  /-- `STA $nnnn,X`, opcode 9D (R134, mode R99). -/
  | staAbsX (b1 b2 : Byte)
  /-- `STA $nnnn,Y`, opcode 99 (R134, mode R100). -/
  | staAbsY (b1 b2 : Byte)
  /-- `STA ($nn,X)`, opcode 81 (R134, mode R102). -/
  | staIndX (b1 : Byte)
  /-- `STA ($nn),Y`, opcode 91 (R134, mode R103). -/
  | staIndY (b1 : Byte)
  /-- `STX $nn`, opcode 86 (R135, mode R94). -/
  | stxZp (b1 : Byte)
  /-- `STX $nn,Y`, opcode 96 (R135, mode R96). -/
  | stxZpY (b1 : Byte)
  /-- `STX $nnnn`, opcode 8E (R135, mode R98). -/
  | stxAbs (b1 b2 : Byte)
  /-- `STY $nn`, opcode 84 (R136, mode R94). -/
  | styZp (b1 : Byte)
  /-- `STY $nn,X`, opcode 94 (R136, mode R95). -/
  | styZpX (b1 : Byte)
  /-- `STY $nnnn`, opcode 8C (R136, mode R98). -/
  | styAbs (b1 b2 : Byte)
  /-- `TAX`, opcode AA (R137, mode R91). -/
  | tax
  /-- `TAY`, opcode A8 (R138, mode R91). -/
  | tay
  /-- `TXA`, opcode 8A (R139, mode R91). -/
  | txa
  /-- `TYA`, opcode 98 (R140, mode R91). -/
  | tya
  /-- `TSX`, opcode BA (R141, mode R91). -/
  | tsx
  /-- `TXS`, opcode 9A (R142, mode R91). -/
  | txs
  /-- `BCC label`, opcode 90 (R151, mode R97). -/
  | bcc (b1 : Byte)
  /-- `BCS label`, opcode B0 (R152, mode R97). -/
  | bcs (b1 : Byte)
  /-- `BEQ label`, opcode F0 (R153, mode R97). -/
  | beq (b1 : Byte)
  /-- `BNE label`, opcode D0 (R154, mode R97). -/
  | bne (b1 : Byte)
  /-- `BMI label`, opcode 30 (R155, mode R97). -/
  | bmi (b1 : Byte)
  /-- `BPL label`, opcode 10 (R156, mode R97). -/
  | bpl (b1 : Byte)
  /-- `BVC label`, opcode 50 (R157, mode R97). -/
  | bvc (b1 : Byte)
  /-- `BVS label`, opcode 70 (R158, mode R97). -/
  | bvs (b1 : Byte)
  /-- `PHA`, opcode 48 (R165, mode R91). -/
  | pha
  /-- `PHP`, opcode 08 (R166, mode R91). -/
  | php
  /-- `PLA`, opcode 68 (R167, mode R91). -/
  | pla
  /-- `PLP`, opcode 28 (R168, mode R91). -/
  | plp
  /-- `CLC`, opcode 18 (R171, mode R91). -/
  | clc
  /-- `SEC`, opcode 38 (R172, mode R91). -/
  | sec
  /-- `CLI`, opcode 58 (R173, mode R91). -/
  | cli
  /-- `SEI`, opcode 78 (R174, mode R91). -/
  | sei
  /-- `CLD`, opcode D8 (R175, mode R91). -/
  | cld
  /-- `SED`, opcode F8 (R176, mode R91). -/
  | sed
  /-- `CLV`, opcode B8 (R177, mode R91). -/
  | clv
  /-- `JMP $nnnn`, opcode 4C (R185, mode R98). -/
  | jmpAbs (b1 b2 : Byte)
  /-- `JMP ($nnnn)`, opcode 6C (R185, mode R101). -/
  | jmpInd (b1 b2 : Byte)
  /-- `JSR $nnnn`, opcode 20 (R187, mode R98). -/
  | jsr (b1 b2 : Byte)
  /-- `RTS`, opcode 60 (R188, mode R91). -/
  | rts
  /-- `RTI`, opcode 40 (R189, mode R91). -/
  | rti
  /-- `CMP #$nn`, opcode C9 (R196, mode R93). -/
  | cmpImm (b1 : Byte)
  /-- `CMP $nn`, opcode C5 (R196, mode R94). -/
  | cmpZp (b1 : Byte)
  /-- `CMP $nn,X`, opcode D5 (R196, mode R95). -/
  | cmpZpX (b1 : Byte)
  /-- `CMP $nnnn`, opcode CD (R196, mode R98). -/
  | cmpAbs (b1 b2 : Byte)
  /-- `CMP $nnnn,X`, opcode DD (R196, mode R99). -/
  | cmpAbsX (b1 b2 : Byte)
  /-- `CMP $nnnn,Y`, opcode D9 (R196, mode R100). -/
  | cmpAbsY (b1 b2 : Byte)
  /-- `CMP ($nn,X)`, opcode C1 (R196, mode R102). -/
  | cmpIndX (b1 : Byte)
  /-- `CMP ($nn),Y`, opcode D1 (R196, mode R103). -/
  | cmpIndY (b1 : Byte)
  /-- `CPX #$nn`, opcode E0 (R197, mode R93). -/
  | cpxImm (b1 : Byte)
  /-- `CPX $nn`, opcode E4 (R197, mode R94). -/
  | cpxZp (b1 : Byte)
  /-- `CPX $nnnn`, opcode EC (R197, mode R98). -/
  | cpxAbs (b1 b2 : Byte)
  /-- `CPY #$nn`, opcode C0 (R198, mode R93). -/
  | cpyImm (b1 : Byte)
  /-- `CPY $nn`, opcode C4 (R198, mode R94). -/
  | cpyZp (b1 : Byte)
  /-- `CPY $nnnn`, opcode CC (R198, mode R98). -/
  | cpyAbs (b1 b2 : Byte)
  /-- `ASL A`, opcode 0A (R201, mode R92). -/
  | aslAcc
  /-- `ASL $nn`, opcode 06 (R201, mode R94). -/
  | aslZp (b1 : Byte)
  /-- `ASL $nn,X`, opcode 16 (R201, mode R95). -/
  | aslZpX (b1 : Byte)
  /-- `ASL $nnnn`, opcode 0E (R201, mode R98). -/
  | aslAbs (b1 b2 : Byte)
  /-- `ASL $nnnn,X`, opcode 1E (R201, mode R99). -/
  | aslAbsX (b1 b2 : Byte)
  /-- `LSR A`, opcode 4A (R202, mode R92). -/
  | lsrAcc
  /-- `LSR $nn`, opcode 46 (R202, mode R94). -/
  | lsrZp (b1 : Byte)
  /-- `LSR $nn,X`, opcode 56 (R202, mode R95). -/
  | lsrZpX (b1 : Byte)
  /-- `LSR $nnnn`, opcode 4E (R202, mode R98). -/
  | lsrAbs (b1 b2 : Byte)
  /-- `LSR $nnnn,X`, opcode 5E (R202, mode R99). -/
  | lsrAbsX (b1 b2 : Byte)
  /-- `ROL A`, opcode 2A (R203, mode R92). -/
  | rolAcc
  /-- `ROL $nn`, opcode 26 (R203, mode R94). -/
  | rolZp (b1 : Byte)
  /-- `ROL $nn,X`, opcode 36 (R203, mode R95). -/
  | rolZpX (b1 : Byte)
  /-- `ROL $nnnn`, opcode 2E (R203, mode R98). -/
  | rolAbs (b1 b2 : Byte)
  /-- `ROL $nnnn,X`, opcode 3E (R203, mode R99). -/
  | rolAbsX (b1 b2 : Byte)
  /-- `ROR A`, opcode 6A (R204, mode R92). -/
  | rorAcc
  /-- `ROR $nn`, opcode 66 (R204, mode R94). -/
  | rorZp (b1 : Byte)
  /-- `ROR $nn,X`, opcode 76 (R204, mode R95). -/
  | rorZpX (b1 : Byte)
  /-- `ROR $nnnn`, opcode 6E (R204, mode R98). -/
  | rorAbs (b1 b2 : Byte)
  /-- `ROR $nnnn,X`, opcode 7E (R204, mode R99). -/
  | rorAbsX (b1 b2 : Byte)
  /-- `INC $nn`, opcode E6 (R205, mode R94). -/
  | incZp (b1 : Byte)
  /-- `INC $nn,X`, opcode F6 (R205, mode R95). -/
  | incZpX (b1 : Byte)
  /-- `INC $nnnn`, opcode EE (R205, mode R98). -/
  | incAbs (b1 b2 : Byte)
  /-- `INC $nnnn,X`, opcode FE (R205, mode R99). -/
  | incAbsX (b1 b2 : Byte)
  /-- `DEC $nn`, opcode C6 (R206, mode R94). -/
  | decZp (b1 : Byte)
  /-- `DEC $nn,X`, opcode D6 (R206, mode R95). -/
  | decZpX (b1 : Byte)
  /-- `DEC $nnnn`, opcode CE (R206, mode R98). -/
  | decAbs (b1 b2 : Byte)
  /-- `DEC $nnnn,X`, opcode DE (R206, mode R99). -/
  | decAbsX (b1 b2 : Byte)
  /-- `INX`, opcode E8 (R207, mode R91). -/
  | inx
  /-- `INY`, opcode C8 (R208, mode R91). -/
  | iny
  /-- `DEX`, opcode CA (R209, mode R91). -/
  | dex
  /-- `DEY`, opcode 88 (R210, mode R91). -/
  | dey
  /-- `NOP`, opcode EA (R220, mode R91). -/
  | nop
  /-- `BRK`, opcode 00 (R221, mode R91). -/
  | brk
  deriving DecidableEq, Repr

/-- An instruction as mnemonic, mode and operand bytes: what an assembler line says (R84). A byte that the mode
does not have is 0x00. Not every `Form` is an instruction: WellFormed.lean says which are. -/
structure Form where
  mnemonic : Mnemonic
  mode     : Mode
  b1       : Byte := 0
  b2       : Byte := 0
  deriving DecidableEq, Repr

/-- The mnemonic, mode and operand bytes of an instruction. -/
def Instr.form : Instr → Form
  | .adcImm b1 => ⟨.adc, .immediate, b1, 0⟩
  | .adcZp b1 => ⟨.adc, .zeroPage, b1, 0⟩
  | .adcZpX b1 => ⟨.adc, .zeroPageX, b1, 0⟩
  | .adcAbs b1 b2 => ⟨.adc, .absolute, b1, b2⟩
  | .adcAbsX b1 b2 => ⟨.adc, .absoluteX, b1, b2⟩
  | .adcAbsY b1 b2 => ⟨.adc, .absoluteY, b1, b2⟩
  | .adcIndX b1 => ⟨.adc, .indexedIndirect, b1, 0⟩
  | .adcIndY b1 => ⟨.adc, .indirectIndexed, b1, 0⟩
  | .sbcImm b1 => ⟨.sbc, .immediate, b1, 0⟩
  | .sbcZp b1 => ⟨.sbc, .zeroPage, b1, 0⟩
  | .sbcZpX b1 => ⟨.sbc, .zeroPageX, b1, 0⟩
  | .sbcAbs b1 b2 => ⟨.sbc, .absolute, b1, b2⟩
  | .sbcAbsX b1 b2 => ⟨.sbc, .absoluteX, b1, b2⟩
  | .sbcAbsY b1 b2 => ⟨.sbc, .absoluteY, b1, b2⟩
  | .sbcIndX b1 => ⟨.sbc, .indexedIndirect, b1, 0⟩
  | .sbcIndY b1 => ⟨.sbc, .indirectIndexed, b1, 0⟩
  | .andImm b1 => ⟨.and, .immediate, b1, 0⟩
  | .andZp b1 => ⟨.and, .zeroPage, b1, 0⟩
  | .andZpX b1 => ⟨.and, .zeroPageX, b1, 0⟩
  | .andAbs b1 b2 => ⟨.and, .absolute, b1, b2⟩
  | .andAbsX b1 b2 => ⟨.and, .absoluteX, b1, b2⟩
  | .andAbsY b1 b2 => ⟨.and, .absoluteY, b1, b2⟩
  | .andIndX b1 => ⟨.and, .indexedIndirect, b1, 0⟩
  | .andIndY b1 => ⟨.and, .indirectIndexed, b1, 0⟩
  | .oraImm b1 => ⟨.ora, .immediate, b1, 0⟩
  | .oraZp b1 => ⟨.ora, .zeroPage, b1, 0⟩
  | .oraZpX b1 => ⟨.ora, .zeroPageX, b1, 0⟩
  | .oraAbs b1 b2 => ⟨.ora, .absolute, b1, b2⟩
  | .oraAbsX b1 b2 => ⟨.ora, .absoluteX, b1, b2⟩
  | .oraAbsY b1 b2 => ⟨.ora, .absoluteY, b1, b2⟩
  | .oraIndX b1 => ⟨.ora, .indexedIndirect, b1, 0⟩
  | .oraIndY b1 => ⟨.ora, .indirectIndexed, b1, 0⟩
  | .eorImm b1 => ⟨.eor, .immediate, b1, 0⟩
  | .eorZp b1 => ⟨.eor, .zeroPage, b1, 0⟩
  | .eorZpX b1 => ⟨.eor, .zeroPageX, b1, 0⟩
  | .eorAbs b1 b2 => ⟨.eor, .absolute, b1, b2⟩
  | .eorAbsX b1 b2 => ⟨.eor, .absoluteX, b1, b2⟩
  | .eorAbsY b1 b2 => ⟨.eor, .absoluteY, b1, b2⟩
  | .eorIndX b1 => ⟨.eor, .indexedIndirect, b1, 0⟩
  | .eorIndY b1 => ⟨.eor, .indirectIndexed, b1, 0⟩
  | .bitZp b1 => ⟨.bit, .zeroPage, b1, 0⟩
  | .bitAbs b1 b2 => ⟨.bit, .absolute, b1, b2⟩
  | .ldaImm b1 => ⟨.lda, .immediate, b1, 0⟩
  | .ldaZp b1 => ⟨.lda, .zeroPage, b1, 0⟩
  | .ldaZpX b1 => ⟨.lda, .zeroPageX, b1, 0⟩
  | .ldaAbs b1 b2 => ⟨.lda, .absolute, b1, b2⟩
  | .ldaAbsX b1 b2 => ⟨.lda, .absoluteX, b1, b2⟩
  | .ldaAbsY b1 b2 => ⟨.lda, .absoluteY, b1, b2⟩
  | .ldaIndX b1 => ⟨.lda, .indexedIndirect, b1, 0⟩
  | .ldaIndY b1 => ⟨.lda, .indirectIndexed, b1, 0⟩
  | .ldxImm b1 => ⟨.ldx, .immediate, b1, 0⟩
  | .ldxZp b1 => ⟨.ldx, .zeroPage, b1, 0⟩
  | .ldxZpY b1 => ⟨.ldx, .zeroPageY, b1, 0⟩
  | .ldxAbs b1 b2 => ⟨.ldx, .absolute, b1, b2⟩
  | .ldxAbsY b1 b2 => ⟨.ldx, .absoluteY, b1, b2⟩
  | .ldyImm b1 => ⟨.ldy, .immediate, b1, 0⟩
  | .ldyZp b1 => ⟨.ldy, .zeroPage, b1, 0⟩
  | .ldyZpX b1 => ⟨.ldy, .zeroPageX, b1, 0⟩
  | .ldyAbs b1 b2 => ⟨.ldy, .absolute, b1, b2⟩
  | .ldyAbsX b1 b2 => ⟨.ldy, .absoluteX, b1, b2⟩
  | .staZp b1 => ⟨.sta, .zeroPage, b1, 0⟩
  | .staZpX b1 => ⟨.sta, .zeroPageX, b1, 0⟩
  | .staAbs b1 b2 => ⟨.sta, .absolute, b1, b2⟩
  | .staAbsX b1 b2 => ⟨.sta, .absoluteX, b1, b2⟩
  | .staAbsY b1 b2 => ⟨.sta, .absoluteY, b1, b2⟩
  | .staIndX b1 => ⟨.sta, .indexedIndirect, b1, 0⟩
  | .staIndY b1 => ⟨.sta, .indirectIndexed, b1, 0⟩
  | .stxZp b1 => ⟨.stx, .zeroPage, b1, 0⟩
  | .stxZpY b1 => ⟨.stx, .zeroPageY, b1, 0⟩
  | .stxAbs b1 b2 => ⟨.stx, .absolute, b1, b2⟩
  | .styZp b1 => ⟨.sty, .zeroPage, b1, 0⟩
  | .styZpX b1 => ⟨.sty, .zeroPageX, b1, 0⟩
  | .styAbs b1 b2 => ⟨.sty, .absolute, b1, b2⟩
  | .tax => ⟨.tax, .implied, 0, 0⟩
  | .tay => ⟨.tay, .implied, 0, 0⟩
  | .txa => ⟨.txa, .implied, 0, 0⟩
  | .tya => ⟨.tya, .implied, 0, 0⟩
  | .tsx => ⟨.tsx, .implied, 0, 0⟩
  | .txs => ⟨.txs, .implied, 0, 0⟩
  | .bcc b1 => ⟨.bcc, .relative, b1, 0⟩
  | .bcs b1 => ⟨.bcs, .relative, b1, 0⟩
  | .beq b1 => ⟨.beq, .relative, b1, 0⟩
  | .bne b1 => ⟨.bne, .relative, b1, 0⟩
  | .bmi b1 => ⟨.bmi, .relative, b1, 0⟩
  | .bpl b1 => ⟨.bpl, .relative, b1, 0⟩
  | .bvc b1 => ⟨.bvc, .relative, b1, 0⟩
  | .bvs b1 => ⟨.bvs, .relative, b1, 0⟩
  | .pha => ⟨.pha, .implied, 0, 0⟩
  | .php => ⟨.php, .implied, 0, 0⟩
  | .pla => ⟨.pla, .implied, 0, 0⟩
  | .plp => ⟨.plp, .implied, 0, 0⟩
  | .clc => ⟨.clc, .implied, 0, 0⟩
  | .sec => ⟨.sec, .implied, 0, 0⟩
  | .cli => ⟨.cli, .implied, 0, 0⟩
  | .sei => ⟨.sei, .implied, 0, 0⟩
  | .cld => ⟨.cld, .implied, 0, 0⟩
  | .sed => ⟨.sed, .implied, 0, 0⟩
  | .clv => ⟨.clv, .implied, 0, 0⟩
  | .jmpAbs b1 b2 => ⟨.jmp, .absolute, b1, b2⟩
  | .jmpInd b1 b2 => ⟨.jmp, .indirect, b1, b2⟩
  | .jsr b1 b2 => ⟨.jsr, .absolute, b1, b2⟩
  | .rts => ⟨.rts, .implied, 0, 0⟩
  | .rti => ⟨.rti, .implied, 0, 0⟩
  | .cmpImm b1 => ⟨.cmp, .immediate, b1, 0⟩
  | .cmpZp b1 => ⟨.cmp, .zeroPage, b1, 0⟩
  | .cmpZpX b1 => ⟨.cmp, .zeroPageX, b1, 0⟩
  | .cmpAbs b1 b2 => ⟨.cmp, .absolute, b1, b2⟩
  | .cmpAbsX b1 b2 => ⟨.cmp, .absoluteX, b1, b2⟩
  | .cmpAbsY b1 b2 => ⟨.cmp, .absoluteY, b1, b2⟩
  | .cmpIndX b1 => ⟨.cmp, .indexedIndirect, b1, 0⟩
  | .cmpIndY b1 => ⟨.cmp, .indirectIndexed, b1, 0⟩
  | .cpxImm b1 => ⟨.cpx, .immediate, b1, 0⟩
  | .cpxZp b1 => ⟨.cpx, .zeroPage, b1, 0⟩
  | .cpxAbs b1 b2 => ⟨.cpx, .absolute, b1, b2⟩
  | .cpyImm b1 => ⟨.cpy, .immediate, b1, 0⟩
  | .cpyZp b1 => ⟨.cpy, .zeroPage, b1, 0⟩
  | .cpyAbs b1 b2 => ⟨.cpy, .absolute, b1, b2⟩
  | .aslAcc => ⟨.asl, .accumulator, 0, 0⟩
  | .aslZp b1 => ⟨.asl, .zeroPage, b1, 0⟩
  | .aslZpX b1 => ⟨.asl, .zeroPageX, b1, 0⟩
  | .aslAbs b1 b2 => ⟨.asl, .absolute, b1, b2⟩
  | .aslAbsX b1 b2 => ⟨.asl, .absoluteX, b1, b2⟩
  | .lsrAcc => ⟨.lsr, .accumulator, 0, 0⟩
  | .lsrZp b1 => ⟨.lsr, .zeroPage, b1, 0⟩
  | .lsrZpX b1 => ⟨.lsr, .zeroPageX, b1, 0⟩
  | .lsrAbs b1 b2 => ⟨.lsr, .absolute, b1, b2⟩
  | .lsrAbsX b1 b2 => ⟨.lsr, .absoluteX, b1, b2⟩
  | .rolAcc => ⟨.rol, .accumulator, 0, 0⟩
  | .rolZp b1 => ⟨.rol, .zeroPage, b1, 0⟩
  | .rolZpX b1 => ⟨.rol, .zeroPageX, b1, 0⟩
  | .rolAbs b1 b2 => ⟨.rol, .absolute, b1, b2⟩
  | .rolAbsX b1 b2 => ⟨.rol, .absoluteX, b1, b2⟩
  | .rorAcc => ⟨.ror, .accumulator, 0, 0⟩
  | .rorZp b1 => ⟨.ror, .zeroPage, b1, 0⟩
  | .rorZpX b1 => ⟨.ror, .zeroPageX, b1, 0⟩
  | .rorAbs b1 b2 => ⟨.ror, .absolute, b1, b2⟩
  | .rorAbsX b1 b2 => ⟨.ror, .absoluteX, b1, b2⟩
  | .incZp b1 => ⟨.inc, .zeroPage, b1, 0⟩
  | .incZpX b1 => ⟨.inc, .zeroPageX, b1, 0⟩
  | .incAbs b1 b2 => ⟨.inc, .absolute, b1, b2⟩
  | .incAbsX b1 b2 => ⟨.inc, .absoluteX, b1, b2⟩
  | .decZp b1 => ⟨.dec, .zeroPage, b1, 0⟩
  | .decZpX b1 => ⟨.dec, .zeroPageX, b1, 0⟩
  | .decAbs b1 b2 => ⟨.dec, .absolute, b1, b2⟩
  | .decAbsX b1 b2 => ⟨.dec, .absoluteX, b1, b2⟩
  | .inx => ⟨.inx, .implied, 0, 0⟩
  | .iny => ⟨.iny, .implied, 0, 0⟩
  | .dex => ⟨.dex, .implied, 0, 0⟩
  | .dey => ⟨.dey, .implied, 0, 0⟩
  | .nop => ⟨.nop, .implied, 0, 0⟩
  | .brk => ⟨.brk, .implied, 0, 0⟩

/-- The operation tag of an instruction. -/
def Instr.mnemonic (i : Instr) : Mnemonic := i.form.mnemonic

/-- The addressing mode of an instruction. -/
def Instr.mode (i : Instr) : Mode := i.form.mode

/-- The length of an instruction in bytes: 1 + operand byte count (R72). -/
def Instr.length (i : Instr) : Nat := 1 + i.mode.operandBytes

end Sys2Proof
end

