-- ==== Sys2Proof/Machine/Operands.lean ====
section
/-! DEFINITION. The addressing-mode resolver (40_addressing_modes.md): one definition for each mode's effective address,
the thirteen-way selector `resolve`, and `Load` and `Store`. The resolver reads registers and memory and
writes nothing (R90). -/

namespace Sys2Proof.Machine

open Sys2Proof

/-! ## Effective addresses -/

/-- ZeroPage (R94). -/
def eaZeroPage (b1 : Byte) : Addr := zext16 b1

/-- ZeroPageX (R95): the sum wraps inside page 0. -/
def eaZeroPageX (b1 : Byte) (s : State) : Addr := zext16 (b1 + s.x)

/-- ZeroPageY (R96, C1): the sum wraps inside page 0. -/
def eaZeroPageY (b1 : Byte) (s : State) : Addr := zext16 (b1 + s.y)

/-- Relative (R97): the signed offset is added to the address after the instruction. -/
def eaRelative (b1 : Byte) (next : Addr) : Addr := next + sext16 b1

/-- Absolute (R98): low byte first. -/
def eaAbsolute (b1 b2 : Byte) : Addr := concat b2 b1

/-- AbsoluteX (R99): the full 16-bit sum. -/
def eaAbsoluteX (b1 b2 : Byte) (s : State) : Addr := concat b2 b1 + zext16 s.x

/-- AbsoluteY (R100): the full 16-bit sum. -/
def eaAbsoluteY (b1 b2 : Byte) (s : State) : Addr := concat b2 b1 + zext16 s.y

/-- Indirect (R101, C2): the high byte of the pointer comes from the same page, even at a page end. -/
def eaIndirect (b1 b2 : Byte) (s : State) : Addr :=
  s.read16 (concat b2 b1) (concat b2 (b1 + 1))

/-- IndexedIndirect (R102): both bytes of the pointer are in the zero page. -/
def eaIndexedIndirect (b1 : Byte) (s : State) : Addr :=
  let z := b1 + s.x
  s.read16 (zext16 z) (zext16 (z + 1))

/-- IndirectIndexed (R103): both bytes of the pointer are in the zero page; `Y` is added with full carry. -/
def eaIndirectIndexed (b1 : Byte) (s : State) : Addr :=
  s.read16 (zext16 b1) (zext16 (b1 + 1)) + zext16 s.y

/-! ## The operand descriptor (R90) -/

/-- The four shapes of the resolver's result (R90). -/
inductive Operand where
  /-- No operand. -/
  | implied
  /-- The accumulator. -/
  | acc
  /-- A literal, readable only. -/
  | imm (v : Byte)
  /-- An effective address: readable, writable, or a jump target. -/
  | addr (ea : Addr)
  deriving DecidableEq, Repr

/-- `Resolve(mode, b1, b2, next)` (R90 to R103), a total function (R108). -/
def resolve (m : Mode) (b1 b2 : Byte) (next : Addr) (s : State) : Operand :=
  match m with
  | .implied => .implied
  | .accumulator => .acc
  | .immediate => .imm b1
  | .zeroPage => .addr (eaZeroPage b1)
  | .zeroPageX => .addr (eaZeroPageX b1 s)
  | .zeroPageY => .addr (eaZeroPageY b1 s)
  | .relative => .addr (eaRelative b1 next)
  | .absolute => .addr (eaAbsolute b1 b2)
  | .absoluteX => .addr (eaAbsoluteX b1 b2 s)
  | .absoluteY => .addr (eaAbsoluteY b1 b2 s)
  | .indirect => .addr (eaIndirect b1 b2 s)
  | .indexedIndirect => .addr (eaIndexedIndirect b1 s)
  | .indirectIndexed => .addr (eaIndirectIndexed b1 s)

/-- `Load(opnd)` (R104): `none` where the spec does not define it. -/
def Operand.load (o : Operand) (s : State) : Option Byte :=
  match o with
  | .implied => none
  | .acc => some s.a
  | .imm v => some v
  | .addr ea => some (s.read ea)

/-- `Store(opnd, v)` (R105): `none` where the spec does not define it. -/
def Operand.store (o : Operand) (v : Byte) (s : State) : Option State :=
  match o with
  | .implied | .imm _ => none
  | .acc => some (s.setA v)
  | .addr ea => some (s.write ea v)

/-! ## Read-write locations -/

/-- The shapes on which `Load` and `Store` are both defined (R90's "read-write location", R106): the accumulator and a
memory byte. The read-modify-write instructions work on one, resolved once (R200). -/
inductive Place where
  | acc
  | addr (ea : Addr)
  deriving DecidableEq, Repr

/-- `Load` of a location (R104). -/
def Place.load (l : Place) (s : State) : Byte :=
  match l with
  | .acc => s.a
  | .addr ea => s.read ea

/-- `Store` to a location (R105). -/
def Place.store (l : Place) (v : Byte) (s : State) : State :=
  match l with
  | .acc => s.setA v
  | .addr ea => s.write ea v

end Sys2Proof.Machine
end

