-- ==== Sys2Proof/Machine/Arithmetic.lean ====
section
/-! DEFINITION. ADC and SBC (41_arithmetic.md): add and subtract with carry over `addCore` (R110). The open
parameter DECIMAL_POLICY (R11, R112) is an argument of each meaning; the meaning at the default stands beside it. -/

namespace Sys2Proof.Machine

open Sys2Proof

/-- ADC on an operand byte, in an instruction of `len` bytes (R111). Under the `refuse` policy there is no meaning while
`P.D = 1` (R112). -/
def adc (policy : DecimalPolicy) (m : Byte) (len : Nat) (s : State) : Result :=
  if policy = .refuse ∧ s.p.d = true then .refused .decimalMode
  else
    let o := addCore s.a m s.p.c
    .next (((((s.setA o.r).setC o.cout).setV o.v).setNZ o.r).advance len)

/-- SBC on an operand byte: the adder on its one's complement (R113). Decimal policy as for ADC (R112). -/
def sbc (policy : DecimalPolicy) (m : Byte) (len : Nat) (s : State) : Result :=
  if policy = .refuse ∧ s.p.d = true then .refused .decimalMode
  else
    let o := addCore s.a (~~~m) s.p.c
    .next (((((s.setA o.r).setC o.cout).setV o.v).setNZ o.r).advance len)

/-- `ADC #$nn` under a policy: ADC R111, mode R93. -/
def execAdcImmUnder (policy : DecimalPolicy) (b1 : Byte) (s : State) : Result :=
  adc policy b1 2 s

/-- `ADC #$nn`: ADC R111, mode R93, at the default policy. -/
def execAdcImm (b1 : Byte) (s : State) : Result := execAdcImmUnder Config.decimalPolicy b1 s

/-- `ADC $nn` under a policy: ADC R111, mode R94. -/
def execAdcZpUnder (policy : DecimalPolicy) (b1 : Byte) (s : State) : Result :=
  adc policy (s.read (eaZeroPage b1)) 2 s

/-- `ADC $nn`: ADC R111, mode R94, at the default policy. -/
def execAdcZp (b1 : Byte) (s : State) : Result := execAdcZpUnder Config.decimalPolicy b1 s

/-- `ADC $nn,X` under a policy: ADC R111, mode R95. -/
def execAdcZpXUnder (policy : DecimalPolicy) (b1 : Byte) (s : State) : Result :=
  adc policy (s.read (eaZeroPageX b1 s)) 2 s

/-- `ADC $nn,X`: ADC R111, mode R95, at the default policy. -/
def execAdcZpX (b1 : Byte) (s : State) : Result := execAdcZpXUnder Config.decimalPolicy b1 s

/-- `ADC $nnnn` under a policy: ADC R111, mode R98. -/
def execAdcAbsUnder (policy : DecimalPolicy) (b1 b2 : Byte) (s : State) : Result :=
  adc policy (s.read (eaAbsolute b1 b2)) 3 s

/-- `ADC $nnnn`: ADC R111, mode R98, at the default policy. -/
def execAdcAbs (b1 b2 : Byte) (s : State) : Result := execAdcAbsUnder Config.decimalPolicy b1 b2 s

/-- `ADC $nnnn,X` under a policy: ADC R111, mode R99. -/
def execAdcAbsXUnder (policy : DecimalPolicy) (b1 b2 : Byte) (s : State) : Result :=
  adc policy (s.read (eaAbsoluteX b1 b2 s)) 3 s

/-- `ADC $nnnn,X`: ADC R111, mode R99, at the default policy. -/
def execAdcAbsX (b1 b2 : Byte) (s : State) : Result := execAdcAbsXUnder Config.decimalPolicy b1 b2 s

/-- `ADC $nnnn,Y` under a policy: ADC R111, mode R100. -/
def execAdcAbsYUnder (policy : DecimalPolicy) (b1 b2 : Byte) (s : State) : Result :=
  adc policy (s.read (eaAbsoluteY b1 b2 s)) 3 s

/-- `ADC $nnnn,Y`: ADC R111, mode R100, at the default policy. -/
def execAdcAbsY (b1 b2 : Byte) (s : State) : Result := execAdcAbsYUnder Config.decimalPolicy b1 b2 s

/-- `ADC ($nn,X)` under a policy: ADC R111, mode R102. -/
def execAdcIndXUnder (policy : DecimalPolicy) (b1 : Byte) (s : State) : Result :=
  adc policy (s.read (eaIndexedIndirect b1 s)) 2 s

/-- `ADC ($nn,X)`: ADC R111, mode R102, at the default policy. -/
def execAdcIndX (b1 : Byte) (s : State) : Result := execAdcIndXUnder Config.decimalPolicy b1 s

/-- `ADC ($nn),Y` under a policy: ADC R111, mode R103. -/
def execAdcIndYUnder (policy : DecimalPolicy) (b1 : Byte) (s : State) : Result :=
  adc policy (s.read (eaIndirectIndexed b1 s)) 2 s

/-- `ADC ($nn),Y`: ADC R111, mode R103, at the default policy. -/
def execAdcIndY (b1 : Byte) (s : State) : Result := execAdcIndYUnder Config.decimalPolicy b1 s

/-- `SBC #$nn` under a policy: SBC R113, mode R93. -/
def execSbcImmUnder (policy : DecimalPolicy) (b1 : Byte) (s : State) : Result :=
  sbc policy b1 2 s

/-- `SBC #$nn`: SBC R113, mode R93, at the default policy. -/
def execSbcImm (b1 : Byte) (s : State) : Result := execSbcImmUnder Config.decimalPolicy b1 s

/-- `SBC $nn` under a policy: SBC R113, mode R94. -/
def execSbcZpUnder (policy : DecimalPolicy) (b1 : Byte) (s : State) : Result :=
  sbc policy (s.read (eaZeroPage b1)) 2 s

/-- `SBC $nn`: SBC R113, mode R94, at the default policy. -/
def execSbcZp (b1 : Byte) (s : State) : Result := execSbcZpUnder Config.decimalPolicy b1 s

/-- `SBC $nn,X` under a policy: SBC R113, mode R95. -/
def execSbcZpXUnder (policy : DecimalPolicy) (b1 : Byte) (s : State) : Result :=
  sbc policy (s.read (eaZeroPageX b1 s)) 2 s

/-- `SBC $nn,X`: SBC R113, mode R95, at the default policy. -/
def execSbcZpX (b1 : Byte) (s : State) : Result := execSbcZpXUnder Config.decimalPolicy b1 s

/-- `SBC $nnnn` under a policy: SBC R113, mode R98. -/
def execSbcAbsUnder (policy : DecimalPolicy) (b1 b2 : Byte) (s : State) : Result :=
  sbc policy (s.read (eaAbsolute b1 b2)) 3 s

/-- `SBC $nnnn`: SBC R113, mode R98, at the default policy. -/
def execSbcAbs (b1 b2 : Byte) (s : State) : Result := execSbcAbsUnder Config.decimalPolicy b1 b2 s

/-- `SBC $nnnn,X` under a policy: SBC R113, mode R99. -/
def execSbcAbsXUnder (policy : DecimalPolicy) (b1 b2 : Byte) (s : State) : Result :=
  sbc policy (s.read (eaAbsoluteX b1 b2 s)) 3 s

/-- `SBC $nnnn,X`: SBC R113, mode R99, at the default policy. -/
def execSbcAbsX (b1 b2 : Byte) (s : State) : Result := execSbcAbsXUnder Config.decimalPolicy b1 b2 s

/-- `SBC $nnnn,Y` under a policy: SBC R113, mode R100. -/
def execSbcAbsYUnder (policy : DecimalPolicy) (b1 b2 : Byte) (s : State) : Result :=
  sbc policy (s.read (eaAbsoluteY b1 b2 s)) 3 s

/-- `SBC $nnnn,Y`: SBC R113, mode R100, at the default policy. -/
def execSbcAbsY (b1 b2 : Byte) (s : State) : Result := execSbcAbsYUnder Config.decimalPolicy b1 b2 s

/-- `SBC ($nn,X)` under a policy: SBC R113, mode R102. -/
def execSbcIndXUnder (policy : DecimalPolicy) (b1 : Byte) (s : State) : Result :=
  sbc policy (s.read (eaIndexedIndirect b1 s)) 2 s

/-- `SBC ($nn,X)`: SBC R113, mode R102, at the default policy. -/
def execSbcIndX (b1 : Byte) (s : State) : Result := execSbcIndXUnder Config.decimalPolicy b1 s

/-- `SBC ($nn),Y` under a policy: SBC R113, mode R103. -/
def execSbcIndYUnder (policy : DecimalPolicy) (b1 : Byte) (s : State) : Result :=
  sbc policy (s.read (eaIndirectIndexed b1 s)) 2 s

/-- `SBC ($nn),Y`: SBC R113, mode R103, at the default policy. -/
def execSbcIndY (b1 : Byte) (s : State) : Result := execSbcIndYUnder Config.decimalPolicy b1 s

end Sys2Proof.Machine
end

