-- ==== Sys2Proof/Machine/Branch.lean ====
section
/-! DEFINITION. The eight conditional branches (44_branch.md). -/

namespace Sys2Proof.Machine

open Sys2Proof

/-- What all eight share (R150): the Relative target if the condition holds, else the next instruction. -/
def branchIf (cond : Bool) (b1 : Byte) (s : State) : Result :=
  if cond then .next (s.setPc (eaRelative b1 (s.after 2))) else .next (s.advance 2)

/-- `BCC label`: BCC R151, mode R97. -/
def execBcc (b1 : Byte) (s : State) : Result := branchIf (!s.p.c) b1 s

/-- `BCS label`: BCS R152, mode R97. -/
def execBcs (b1 : Byte) (s : State) : Result := branchIf s.p.c b1 s

/-- `BEQ label`: BEQ R153, mode R97. -/
def execBeq (b1 : Byte) (s : State) : Result := branchIf s.p.z b1 s

/-- `BNE label`: BNE R154, mode R97. -/
def execBne (b1 : Byte) (s : State) : Result := branchIf (!s.p.z) b1 s

/-- `BMI label`: BMI R155, mode R97. -/
def execBmi (b1 : Byte) (s : State) : Result := branchIf s.p.n b1 s

/-- `BPL label`: BPL R156, mode R97. -/
def execBpl (b1 : Byte) (s : State) : Result := branchIf (!s.p.n) b1 s

/-- `BVC label`: BVC R157, mode R97. -/
def execBvc (b1 : Byte) (s : State) : Result := branchIf (!s.p.v) b1 s

/-- `BVS label`: BVS R158, mode R97. -/
def execBvs (b1 : Byte) (s : State) : Result := branchIf s.p.v b1 s

end Sys2Proof.Machine
end

