-- ==== Sys2Proof/Machine/Compare.lean ====
section
/-! DEFINITION. The compares (47_compare.md), over `compareCore` (R195). -/

namespace Sys2Proof.Machine

open Sys2Proof

/-- A compare of a register value with an operand byte (R196 to R198). -/
def compareWith (reg m : Byte) (len : Nat) (s : State) : Result :=
  .next ((compareCore reg m s).advance len)

/-- `CMP #$nn`: CMP R196, mode R93. -/
def execCmpImm (b1 : Byte) (s : State) : Result := compareWith s.a b1 2 s

/-- `CMP $nn`: CMP R196, mode R94. -/
def execCmpZp (b1 : Byte) (s : State) : Result := compareWith s.a (s.read (eaZeroPage b1)) 2 s

/-- `CMP $nn,X`: CMP R196, mode R95. -/
def execCmpZpX (b1 : Byte) (s : State) : Result := compareWith s.a (s.read (eaZeroPageX b1 s)) 2 s

/-- `CMP $nnnn`: CMP R196, mode R98. -/
def execCmpAbs (b1 b2 : Byte) (s : State) : Result := compareWith s.a (s.read (eaAbsolute b1 b2)) 3 s

/-- `CMP $nnnn,X`: CMP R196, mode R99. -/
def execCmpAbsX (b1 b2 : Byte) (s : State) : Result := compareWith s.a (s.read (eaAbsoluteX b1 b2 s)) 3 s

/-- `CMP $nnnn,Y`: CMP R196, mode R100. -/
def execCmpAbsY (b1 b2 : Byte) (s : State) : Result := compareWith s.a (s.read (eaAbsoluteY b1 b2 s)) 3 s

/-- `CMP ($nn,X)`: CMP R196, mode R102. -/
def execCmpIndX (b1 : Byte) (s : State) : Result := compareWith s.a (s.read (eaIndexedIndirect b1 s)) 2 s

/-- `CMP ($nn),Y`: CMP R196, mode R103. -/
def execCmpIndY (b1 : Byte) (s : State) : Result := compareWith s.a (s.read (eaIndirectIndexed b1 s)) 2 s

/-- `CPX #$nn`: CPX R197, mode R93. -/
def execCpxImm (b1 : Byte) (s : State) : Result := compareWith s.x b1 2 s

/-- `CPX $nn`: CPX R197, mode R94. -/
def execCpxZp (b1 : Byte) (s : State) : Result := compareWith s.x (s.read (eaZeroPage b1)) 2 s

/-- `CPX $nnnn`: CPX R197, mode R98. -/
def execCpxAbs (b1 b2 : Byte) (s : State) : Result := compareWith s.x (s.read (eaAbsolute b1 b2)) 3 s

/-- `CPY #$nn`: CPY R198, mode R93. -/
def execCpyImm (b1 : Byte) (s : State) : Result := compareWith s.y b1 2 s

/-- `CPY $nn`: CPY R198, mode R94. -/
def execCpyZp (b1 : Byte) (s : State) : Result := compareWith s.y (s.read (eaZeroPage b1)) 2 s

/-- `CPY $nnnn`: CPY R198, mode R98. -/
def execCpyAbs (b1 b2 : Byte) (s : State) : Result := compareWith s.y (s.read (eaAbsolute b1 b2)) 3 s

end Sys2Proof.Machine
end

