-- ==== Sys2Proof/Machine/Jump.lean ====
section
/-! DEFINITION. Jumps, subroutine call and returns (46_jump_subroutine.md). -/

namespace Sys2Proof.Machine

open Sys2Proof

/-- JMP to a target (R185). -/
def jumpTo (t : Addr) (s : State) : Result := .next (s.setPc t)

/-- JSR to a target (R187): the address of the JSR's last byte is pushed, high byte first. The target was read before the
pushes (R59, R258). -/
def callTo (t : Addr) (s : State) : Result :=
  let ret := s.after 3 - 1
  .next (((s.push (highByte ret)).push (lowByte ret)).setPc t)

/-- `JMP $nnnn`: JMP R185, mode R98. -/
def execJmpAbs (b1 b2 : Byte) (s : State) : Result := jumpTo (eaAbsolute b1 b2) s

/-- `JMP ($nnnn)`: JMP R185, mode R101. -/
def execJmpInd (b1 b2 : Byte) (s : State) : Result := jumpTo (eaIndirect b1 b2 s) s

/-- `JSR $nnnn`: JSR R187, mode R98. -/
def execJsr (b1 b2 : Byte) (s : State) : Result := callTo (eaAbsolute b1 b2) s

/-- `RTS`: RTS R188, mode R91. -/
def execRts (s : State) : Result :=
  let l := s.pulled
  let s := s.pull
  let h := s.pulled
  let s := s.pull
  .next (s.setPc (concat h l + 1))

/-- `RTI`: RTI R189, mode R91. -/
def execRti (s : State) : Result := .next s.returnFromInterrupt

end Sys2Proof.Machine
end

