-- ==== Sys2Proof/Machine/LoadStoreTransfer.lean ====
section
/-! DEFINITION. Loads, stores and register transfers (43_load_store_transfer.md). -/

namespace Sys2Proof.Machine

open Sys2Proof

/-- LDA (R131). -/
def lda (m : Byte) (len : Nat) (s : State) : Result := .next (((s.setA m).setNZ m).advance len)

/-- LDX (R132). -/
def ldx (m : Byte) (len : Nat) (s : State) : Result := .next (((s.setX m).setNZ m).advance len)

/-- LDY (R133). -/
def ldy (m : Byte) (len : Nat) (s : State) : Result := .next (((s.setY m).setNZ m).advance len)

/-- A store of a register: one byte, no flag (R134 to R136). -/
def storeByte (v : Byte) (ea : Addr) (len : Nat) (s : State) : Result :=
  .next ((s.write ea v).advance len)

/-- `LDA #$nn`: LDA R131, mode R93. -/
def execLdaImm (b1 : Byte) (s : State) : Result := lda b1 2 s

/-- `LDA $nn`: LDA R131, mode R94. -/
def execLdaZp (b1 : Byte) (s : State) : Result := lda (s.read (eaZeroPage b1)) 2 s

/-- `LDA $nn,X`: LDA R131, mode R95. -/
def execLdaZpX (b1 : Byte) (s : State) : Result := lda (s.read (eaZeroPageX b1 s)) 2 s

/-- `LDA $nnnn`: LDA R131, mode R98. -/
def execLdaAbs (b1 b2 : Byte) (s : State) : Result := lda (s.read (eaAbsolute b1 b2)) 3 s

/-- `LDA $nnnn,X`: LDA R131, mode R99. -/
def execLdaAbsX (b1 b2 : Byte) (s : State) : Result := lda (s.read (eaAbsoluteX b1 b2 s)) 3 s

/-- `LDA $nnnn,Y`: LDA R131, mode R100. -/
def execLdaAbsY (b1 b2 : Byte) (s : State) : Result := lda (s.read (eaAbsoluteY b1 b2 s)) 3 s

/-- `LDA ($nn,X)`: LDA R131, mode R102. -/
def execLdaIndX (b1 : Byte) (s : State) : Result := lda (s.read (eaIndexedIndirect b1 s)) 2 s

/-- `LDA ($nn),Y`: LDA R131, mode R103. -/
def execLdaIndY (b1 : Byte) (s : State) : Result := lda (s.read (eaIndirectIndexed b1 s)) 2 s

/-- `LDX #$nn`: LDX R132, mode R93. -/
def execLdxImm (b1 : Byte) (s : State) : Result := ldx b1 2 s

/-- `LDX $nn`: LDX R132, mode R94. -/
def execLdxZp (b1 : Byte) (s : State) : Result := ldx (s.read (eaZeroPage b1)) 2 s

/-- `LDX $nn,Y`: LDX R132, mode R96. -/
def execLdxZpY (b1 : Byte) (s : State) : Result := ldx (s.read (eaZeroPageY b1 s)) 2 s

/-- `LDX $nnnn`: LDX R132, mode R98. -/
def execLdxAbs (b1 b2 : Byte) (s : State) : Result := ldx (s.read (eaAbsolute b1 b2)) 3 s

/-- `LDX $nnnn,Y`: LDX R132, mode R100. -/
def execLdxAbsY (b1 b2 : Byte) (s : State) : Result := ldx (s.read (eaAbsoluteY b1 b2 s)) 3 s

/-- `LDY #$nn`: LDY R133, mode R93. -/
def execLdyImm (b1 : Byte) (s : State) : Result := ldy b1 2 s

/-- `LDY $nn`: LDY R133, mode R94. -/
def execLdyZp (b1 : Byte) (s : State) : Result := ldy (s.read (eaZeroPage b1)) 2 s

/-- `LDY $nn,X`: LDY R133, mode R95. -/
def execLdyZpX (b1 : Byte) (s : State) : Result := ldy (s.read (eaZeroPageX b1 s)) 2 s

/-- `LDY $nnnn`: LDY R133, mode R98. -/
def execLdyAbs (b1 b2 : Byte) (s : State) : Result := ldy (s.read (eaAbsolute b1 b2)) 3 s

/-- `LDY $nnnn,X`: LDY R133, mode R99. -/
def execLdyAbsX (b1 b2 : Byte) (s : State) : Result := ldy (s.read (eaAbsoluteX b1 b2 s)) 3 s

/-- `STA $nn`: STA R134, mode R94. -/
def execStaZp (b1 : Byte) (s : State) : Result := storeByte s.a (eaZeroPage b1) 2 s

/-- `STA $nn,X`: STA R134, mode R95. -/
def execStaZpX (b1 : Byte) (s : State) : Result := storeByte s.a (eaZeroPageX b1 s) 2 s

/-- `STA $nnnn`: STA R134, mode R98. -/
def execStaAbs (b1 b2 : Byte) (s : State) : Result := storeByte s.a (eaAbsolute b1 b2) 3 s

/-- `STA $nnnn,X`: STA R134, mode R99. -/
def execStaAbsX (b1 b2 : Byte) (s : State) : Result := storeByte s.a (eaAbsoluteX b1 b2 s) 3 s

/-- `STA $nnnn,Y`: STA R134, mode R100. -/
def execStaAbsY (b1 b2 : Byte) (s : State) : Result := storeByte s.a (eaAbsoluteY b1 b2 s) 3 s

/-- `STA ($nn,X)`: STA R134, mode R102. -/
def execStaIndX (b1 : Byte) (s : State) : Result := storeByte s.a (eaIndexedIndirect b1 s) 2 s

/-- `STA ($nn),Y`: STA R134, mode R103. -/
def execStaIndY (b1 : Byte) (s : State) : Result := storeByte s.a (eaIndirectIndexed b1 s) 2 s

/-- `STX $nn`: STX R135, mode R94. -/
def execStxZp (b1 : Byte) (s : State) : Result := storeByte s.x (eaZeroPage b1) 2 s

/-- `STX $nn,Y`: STX R135, mode R96. -/
def execStxZpY (b1 : Byte) (s : State) : Result := storeByte s.x (eaZeroPageY b1 s) 2 s

/-- `STX $nnnn`: STX R135, mode R98. -/
def execStxAbs (b1 b2 : Byte) (s : State) : Result := storeByte s.x (eaAbsolute b1 b2) 3 s

/-- `STY $nn`: STY R136, mode R94. -/
def execStyZp (b1 : Byte) (s : State) : Result := storeByte s.y (eaZeroPage b1) 2 s

/-- `STY $nn,X`: STY R136, mode R95. -/
def execStyZpX (b1 : Byte) (s : State) : Result := storeByte s.y (eaZeroPageX b1 s) 2 s

/-- `STY $nnnn`: STY R136, mode R98. -/
def execStyAbs (b1 b2 : Byte) (s : State) : Result := storeByte s.y (eaAbsolute b1 b2) 3 s

/-- `TAX`: TAX R137, mode R91. -/
def execTax (s : State) : Result := .next (((s.setX s.a).setNZ s.a).advance 1)

/-- `TAY`: TAY R138, mode R91. -/
def execTay (s : State) : Result := .next (((s.setY s.a).setNZ s.a).advance 1)

/-- `TXA`: TXA R139, mode R91. -/
def execTxa (s : State) : Result := .next (((s.setA s.x).setNZ s.x).advance 1)

/-- `TYA`: TYA R140, mode R91. -/
def execTya (s : State) : Result := .next (((s.setA s.y).setNZ s.y).advance 1)

/-- `TSX`: TSX R141, mode R91. -/
def execTsx (s : State) : Result := .next (((s.setX s.sp).setNZ s.sp).advance 1)

/-- `TXS`: TXS R142, mode R91. -/
def execTxs (s : State) : Result := .next ((s.setSp s.x).advance 1)

end Sys2Proof.Machine
end

