-- ==== Sys2Proof/Machine/Logical.lean ====
section
/-! DEFINITION. AND, ORA, EOR and BIT (42_logical.md). -/

namespace Sys2Proof.Machine

open Sys2Proof

/-- A logical result: written to the accumulator, Zero and Negative from it (R120 to R122). -/
def logicalResult (r : Byte) (len : Nat) (s : State) : Result :=
  .next (((s.setA r).setNZ r).advance len)

/-- BIT (R123): Zero from the AND with the accumulator, Negative and Overflow from bits 7 and 6 of the operand itself. -/
def bitTest (m : Byte) (len : Nat) (s : State) : Result :=
  .next ((((s.setZ (s.a &&& m == 0)).setN (m.getLsbD 7)).setV (m.getLsbD 6)).advance len)

/-- `AND #$nn`: AND R120, mode R93. -/
def execAndImm (b1 : Byte) (s : State) : Result := logicalResult (s.a &&& b1) 2 s

/-- `AND $nn`: AND R120, mode R94. -/
def execAndZp (b1 : Byte) (s : State) : Result := logicalResult (s.a &&& (s.read (eaZeroPage b1))) 2 s

/-- `AND $nn,X`: AND R120, mode R95. -/
def execAndZpX (b1 : Byte) (s : State) : Result := logicalResult (s.a &&& (s.read (eaZeroPageX b1 s))) 2 s

/-- `AND $nnnn`: AND R120, mode R98. -/
def execAndAbs (b1 b2 : Byte) (s : State) : Result := logicalResult (s.a &&& (s.read (eaAbsolute b1 b2))) 3 s

/-- `AND $nnnn,X`: AND R120, mode R99. -/
def execAndAbsX (b1 b2 : Byte) (s : State) : Result := logicalResult (s.a &&& (s.read (eaAbsoluteX b1 b2 s))) 3 s

/-- `AND $nnnn,Y`: AND R120, mode R100. -/
def execAndAbsY (b1 b2 : Byte) (s : State) : Result := logicalResult (s.a &&& (s.read (eaAbsoluteY b1 b2 s))) 3 s

/-- `AND ($nn,X)`: AND R120, mode R102. -/
def execAndIndX (b1 : Byte) (s : State) : Result := logicalResult (s.a &&& (s.read (eaIndexedIndirect b1 s))) 2 s

/-- `AND ($nn),Y`: AND R120, mode R103. -/
def execAndIndY (b1 : Byte) (s : State) : Result := logicalResult (s.a &&& (s.read (eaIndirectIndexed b1 s))) 2 s

/-- `ORA #$nn`: ORA R121, mode R93. -/
def execOraImm (b1 : Byte) (s : State) : Result := logicalResult (s.a ||| b1) 2 s

/-- `ORA $nn`: ORA R121, mode R94. -/
def execOraZp (b1 : Byte) (s : State) : Result := logicalResult (s.a ||| (s.read (eaZeroPage b1))) 2 s

/-- `ORA $nn,X`: ORA R121, mode R95. -/
def execOraZpX (b1 : Byte) (s : State) : Result := logicalResult (s.a ||| (s.read (eaZeroPageX b1 s))) 2 s

/-- `ORA $nnnn`: ORA R121, mode R98. -/
def execOraAbs (b1 b2 : Byte) (s : State) : Result := logicalResult (s.a ||| (s.read (eaAbsolute b1 b2))) 3 s

/-- `ORA $nnnn,X`: ORA R121, mode R99. -/
def execOraAbsX (b1 b2 : Byte) (s : State) : Result := logicalResult (s.a ||| (s.read (eaAbsoluteX b1 b2 s))) 3 s

/-- `ORA $nnnn,Y`: ORA R121, mode R100. -/
def execOraAbsY (b1 b2 : Byte) (s : State) : Result := logicalResult (s.a ||| (s.read (eaAbsoluteY b1 b2 s))) 3 s

/-- `ORA ($nn,X)`: ORA R121, mode R102. -/
def execOraIndX (b1 : Byte) (s : State) : Result := logicalResult (s.a ||| (s.read (eaIndexedIndirect b1 s))) 2 s

/-- `ORA ($nn),Y`: ORA R121, mode R103. -/
def execOraIndY (b1 : Byte) (s : State) : Result := logicalResult (s.a ||| (s.read (eaIndirectIndexed b1 s))) 2 s

/-- `EOR #$nn`: EOR R122, mode R93. -/
def execEorImm (b1 : Byte) (s : State) : Result := logicalResult (s.a ^^^ b1) 2 s

/-- `EOR $nn`: EOR R122, mode R94. -/
def execEorZp (b1 : Byte) (s : State) : Result := logicalResult (s.a ^^^ (s.read (eaZeroPage b1))) 2 s

/-- `EOR $nn,X`: EOR R122, mode R95. -/
def execEorZpX (b1 : Byte) (s : State) : Result := logicalResult (s.a ^^^ (s.read (eaZeroPageX b1 s))) 2 s

/-- `EOR $nnnn`: EOR R122, mode R98. -/
def execEorAbs (b1 b2 : Byte) (s : State) : Result := logicalResult (s.a ^^^ (s.read (eaAbsolute b1 b2))) 3 s

/-- `EOR $nnnn,X`: EOR R122, mode R99. -/
def execEorAbsX (b1 b2 : Byte) (s : State) : Result := logicalResult (s.a ^^^ (s.read (eaAbsoluteX b1 b2 s))) 3 s

/-- `EOR $nnnn,Y`: EOR R122, mode R100. -/
def execEorAbsY (b1 b2 : Byte) (s : State) : Result := logicalResult (s.a ^^^ (s.read (eaAbsoluteY b1 b2 s))) 3 s

/-- `EOR ($nn,X)`: EOR R122, mode R102. -/
def execEorIndX (b1 : Byte) (s : State) : Result := logicalResult (s.a ^^^ (s.read (eaIndexedIndirect b1 s))) 2 s

/-- `EOR ($nn),Y`: EOR R122, mode R103. -/
def execEorIndY (b1 : Byte) (s : State) : Result := logicalResult (s.a ^^^ (s.read (eaIndirectIndexed b1 s))) 2 s

/-- `BIT $nn`: BIT R123, mode R94. -/
def execBitZp (b1 : Byte) (s : State) : Result := bitTest (s.read (eaZeroPage b1)) 2 s

/-- `BIT $nnnn`: BIT R123, mode R98. -/
def execBitAbs (b1 b2 : Byte) (s : State) : Result := bitTest (s.read (eaAbsolute b1 b2)) 3 s

end Sys2Proof.Machine
end

