-- ==== Sys2Proof/Machine/NopBreak.lean ====
section
/-! DEFINITION. NOP and BRK (49_nop_break_illegal.md). The illegal-opcode step is in Machine/Fetch.lean. -/

namespace Sys2Proof.Machine

open Sys2Proof

/-- `NOP`: NOP R220, mode R91. -/
def execNop (s : State) : Result := .next (s.advance 1)

/-- `BRK`: BRK R221, mode R91. -/
def execBrk (s : State) : Result := .next (s.haltByBreak.advance 1)

end Sys2Proof.Machine
end

