-- ==== Sys2Proof/Machine/ShiftIncDec.lean ====
section
/-! DEFINITION. Shifts, rotates, increments and decrements (48_shift_rotate_incdec.md). A memory form reads and writes one location,
resolved once (R200). -/

namespace Sys2Proof.Machine

open Sys2Proof

/-- A Carry as the byte 0 or 1. -/
def carryByte (c : Bool) : Byte := (BitVec.ofBool c).setWidth 8

/-- ASL (R201). -/
def asl (l : Place) (len : Nat) (s : State) : Result :=
  let m := l.load s
  let r := m <<< 1
  .next (((l.store r (s.setC (m.getLsbD 7))).setNZ r).advance len)

/-- LSR (R202). -/
def lsr (l : Place) (len : Nat) (s : State) : Result :=
  let m := l.load s
  let r := m >>> 1
  .next (((l.store r (s.setC (m.getLsbD 0))).setNZ r).advance len)

/-- ROL (R203): bit 0 takes the old Carry. -/
def rol (l : Place) (len : Nat) (s : State) : Result :=
  let m := l.load s
  let r := (m <<< 1) + carryByte s.p.c
  .next (((l.store r (s.setC (m.getLsbD 7))).setNZ r).advance len)

/-- ROR (R204): bit 7 takes the old Carry. -/
def ror (l : Place) (len : Nat) (s : State) : Result :=
  let m := l.load s
  let r := (m >>> 1) + (carryByte s.p.c <<< 7)
  .next (((l.store r (s.setC (m.getLsbD 0))).setNZ r).advance len)

/-- INC (R205). -/
def inc (l : Place) (len : Nat) (s : State) : Result :=
  let r := l.load s + 1
  .next (((l.store r s).setNZ r).advance len)

/-- DEC (R206). -/
def dec (l : Place) (len : Nat) (s : State) : Result :=
  let r := l.load s - 1
  .next (((l.store r s).setNZ r).advance len)

/-- `ASL A`: ASL R201, mode R92. -/
def execAslAcc (s : State) : Result := asl .acc 1 s

/-- `ASL $nn`: ASL R201, mode R94. -/
def execAslZp (b1 : Byte) (s : State) : Result := asl (.addr (eaZeroPage b1)) 2 s

/-- `ASL $nn,X`: ASL R201, mode R95. -/
def execAslZpX (b1 : Byte) (s : State) : Result := asl (.addr (eaZeroPageX b1 s)) 2 s

/-- `ASL $nnnn`: ASL R201, mode R98. -/
def execAslAbs (b1 b2 : Byte) (s : State) : Result := asl (.addr (eaAbsolute b1 b2)) 3 s

/-- `ASL $nnnn,X`: ASL R201, mode R99. -/
def execAslAbsX (b1 b2 : Byte) (s : State) : Result := asl (.addr (eaAbsoluteX b1 b2 s)) 3 s

/-- `LSR A`: LSR R202, mode R92. -/
def execLsrAcc (s : State) : Result := lsr .acc 1 s

/-- `LSR $nn`: LSR R202, mode R94. -/
def execLsrZp (b1 : Byte) (s : State) : Result := lsr (.addr (eaZeroPage b1)) 2 s

/-- `LSR $nn,X`: LSR R202, mode R95. -/
def execLsrZpX (b1 : Byte) (s : State) : Result := lsr (.addr (eaZeroPageX b1 s)) 2 s

/-- `LSR $nnnn`: LSR R202, mode R98. -/
def execLsrAbs (b1 b2 : Byte) (s : State) : Result := lsr (.addr (eaAbsolute b1 b2)) 3 s

/-- `LSR $nnnn,X`: LSR R202, mode R99. -/
def execLsrAbsX (b1 b2 : Byte) (s : State) : Result := lsr (.addr (eaAbsoluteX b1 b2 s)) 3 s

/-- `ROL A`: ROL R203, mode R92. -/
def execRolAcc (s : State) : Result := rol .acc 1 s

/-- `ROL $nn`: ROL R203, mode R94. -/
def execRolZp (b1 : Byte) (s : State) : Result := rol (.addr (eaZeroPage b1)) 2 s

/-- `ROL $nn,X`: ROL R203, mode R95. -/
def execRolZpX (b1 : Byte) (s : State) : Result := rol (.addr (eaZeroPageX b1 s)) 2 s

/-- `ROL $nnnn`: ROL R203, mode R98. -/
def execRolAbs (b1 b2 : Byte) (s : State) : Result := rol (.addr (eaAbsolute b1 b2)) 3 s

/-- `ROL $nnnn,X`: ROL R203, mode R99. -/
def execRolAbsX (b1 b2 : Byte) (s : State) : Result := rol (.addr (eaAbsoluteX b1 b2 s)) 3 s

/-- `ROR A`: ROR R204, mode R92. -/
def execRorAcc (s : State) : Result := ror .acc 1 s

/-- `ROR $nn`: ROR R204, mode R94. -/
def execRorZp (b1 : Byte) (s : State) : Result := ror (.addr (eaZeroPage b1)) 2 s

/-- `ROR $nn,X`: ROR R204, mode R95. -/
def execRorZpX (b1 : Byte) (s : State) : Result := ror (.addr (eaZeroPageX b1 s)) 2 s

/-- `ROR $nnnn`: ROR R204, mode R98. -/
def execRorAbs (b1 b2 : Byte) (s : State) : Result := ror (.addr (eaAbsolute b1 b2)) 3 s

/-- `ROR $nnnn,X`: ROR R204, mode R99. -/
def execRorAbsX (b1 b2 : Byte) (s : State) : Result := ror (.addr (eaAbsoluteX b1 b2 s)) 3 s

/-- `INC $nn`: INC R205, mode R94. -/
def execIncZp (b1 : Byte) (s : State) : Result := inc (.addr (eaZeroPage b1)) 2 s

/-- `INC $nn,X`: INC R205, mode R95. -/
def execIncZpX (b1 : Byte) (s : State) : Result := inc (.addr (eaZeroPageX b1 s)) 2 s

/-- `INC $nnnn`: INC R205, mode R98. -/
def execIncAbs (b1 b2 : Byte) (s : State) : Result := inc (.addr (eaAbsolute b1 b2)) 3 s

/-- `INC $nnnn,X`: INC R205, mode R99. -/
def execIncAbsX (b1 b2 : Byte) (s : State) : Result := inc (.addr (eaAbsoluteX b1 b2 s)) 3 s

/-- `DEC $nn`: DEC R206, mode R94. -/
def execDecZp (b1 : Byte) (s : State) : Result := dec (.addr (eaZeroPage b1)) 2 s

/-- `DEC $nn,X`: DEC R206, mode R95. -/
def execDecZpX (b1 : Byte) (s : State) : Result := dec (.addr (eaZeroPageX b1 s)) 2 s

/-- `DEC $nnnn`: DEC R206, mode R98. -/
def execDecAbs (b1 b2 : Byte) (s : State) : Result := dec (.addr (eaAbsolute b1 b2)) 3 s

/-- `DEC $nnnn,X`: DEC R206, mode R99. -/
def execDecAbsX (b1 b2 : Byte) (s : State) : Result := dec (.addr (eaAbsoluteX b1 b2 s)) 3 s

/-- `INX`: INX R207, mode R91. -/
def execInx (s : State) : Result := .next (((s.setX (s.x + 1)).setNZ (s.x + 1)).advance 1)

/-- `INY`: INY R208, mode R91. -/
def execIny (s : State) : Result := .next (((s.setY (s.y + 1)).setNZ (s.y + 1)).advance 1)

/-- `DEX`: DEX R209, mode R91. -/
def execDex (s : State) : Result := .next (((s.setX (s.x - 1)).setNZ (s.x - 1)).advance 1)

/-- `DEY`: DEY R210, mode R91. -/
def execDey (s : State) : Result := .next (((s.setY (s.y - 1)).setNZ (s.y - 1)).advance 1)

end Sys2Proof.Machine
end

