-- ==== Sys2Proof/Machine/StackFlags.lean ====
section
/-! DEFINITION. The stack instructions and the flag set and clear instructions (45_stack_and_flags.md). -/

namespace Sys2Proof.Machine

open Sys2Proof

/-- `PHA`: PHA R165, mode R91. -/
def execPha (s : State) : Result := .next ((s.push s.a).advance 1)

/-- `PHP`: PHP R166, mode R91. -/
def execPhp (s : State) : Result := .next ((s.push (packP true s.p)).advance 1)

/-- `PLA`: PLA R167, mode R91. -/
def execPla (s : State) : Result := .next (((s.pull.setA s.pulled).setNZ s.pulled).advance 1)

/-- `PLP`: PLP R168, mode R91. -/
def execPlp (s : State) : Result := .next ((s.pull.setP (unpackP s.pulled s.p)).advance 1)

/-- `CLC`: CLC R171, mode R91. -/
def execClc (s : State) : Result := .next ((s.setC false).advance 1)

/-- `SEC`: SEC R172, mode R91. -/
def execSec (s : State) : Result := .next ((s.setC true).advance 1)

/-- `CLI`: CLI R173, mode R91. -/
def execCli (s : State) : Result := .next ((s.setI false).advance 1)

/-- `SEI`: SEI R174, mode R91. -/
def execSei (s : State) : Result := .next ((s.setI true).advance 1)

/-- `CLD`: CLD R175, mode R91. -/
def execCld (s : State) : Result := .next ((s.setD false).advance 1)

/-- `SED`: SED R176, mode R91. -/
def execSed (s : State) : Result := .next ((s.setD true).advance 1)

/-- `CLV`: CLV R177, mode R91. -/
def execClv (s : State) : Result := .next ((s.setV false).advance 1)

end Sys2Proof.Machine
end

