-- ==== Sys2Proof/Machine/Dispatch.lean ====
section
/-! DEFINITION. One arm for each constructor of `Instr`: the direct call of its meaning. The meanings take a state whose
`pc` is the address of the instruction's opcode byte and set `pc` themselves (R26, R75). -/

namespace Sys2Proof.Machine

open Sys2Proof

def exec (i : Instr) (s : State) : Host.Outcome State Fault Refusal :=
  match i with
  | .adcImm b1 => Sys2Proof.Machine.execAdcImm b1 s
  | .adcZp b1 => Sys2Proof.Machine.execAdcZp b1 s
  | .adcZpX b1 => Sys2Proof.Machine.execAdcZpX b1 s
  | .adcAbs b1 b2 => Sys2Proof.Machine.execAdcAbs b1 b2 s
  | .adcAbsX b1 b2 => Sys2Proof.Machine.execAdcAbsX b1 b2 s
  | .adcAbsY b1 b2 => Sys2Proof.Machine.execAdcAbsY b1 b2 s
  | .adcIndX b1 => Sys2Proof.Machine.execAdcIndX b1 s
  | .adcIndY b1 => Sys2Proof.Machine.execAdcIndY b1 s
  | .sbcImm b1 => Sys2Proof.Machine.execSbcImm b1 s
  | .sbcZp b1 => Sys2Proof.Machine.execSbcZp b1 s
  | .sbcZpX b1 => Sys2Proof.Machine.execSbcZpX b1 s
  | .sbcAbs b1 b2 => Sys2Proof.Machine.execSbcAbs b1 b2 s
  | .sbcAbsX b1 b2 => Sys2Proof.Machine.execSbcAbsX b1 b2 s
  | .sbcAbsY b1 b2 => Sys2Proof.Machine.execSbcAbsY b1 b2 s
  | .sbcIndX b1 => Sys2Proof.Machine.execSbcIndX b1 s
  | .sbcIndY b1 => Sys2Proof.Machine.execSbcIndY b1 s
  | .andImm b1 => Sys2Proof.Machine.execAndImm b1 s
  | .andZp b1 => Sys2Proof.Machine.execAndZp b1 s
  | .andZpX b1 => Sys2Proof.Machine.execAndZpX b1 s
  | .andAbs b1 b2 => Sys2Proof.Machine.execAndAbs b1 b2 s
  | .andAbsX b1 b2 => Sys2Proof.Machine.execAndAbsX b1 b2 s
  | .andAbsY b1 b2 => Sys2Proof.Machine.execAndAbsY b1 b2 s
  | .andIndX b1 => Sys2Proof.Machine.execAndIndX b1 s
  | .andIndY b1 => Sys2Proof.Machine.execAndIndY b1 s
  | .oraImm b1 => Sys2Proof.Machine.execOraImm b1 s
  | .oraZp b1 => Sys2Proof.Machine.execOraZp b1 s
  | .oraZpX b1 => Sys2Proof.Machine.execOraZpX b1 s
  | .oraAbs b1 b2 => Sys2Proof.Machine.execOraAbs b1 b2 s
  | .oraAbsX b1 b2 => Sys2Proof.Machine.execOraAbsX b1 b2 s
  | .oraAbsY b1 b2 => Sys2Proof.Machine.execOraAbsY b1 b2 s
  | .oraIndX b1 => Sys2Proof.Machine.execOraIndX b1 s
  | .oraIndY b1 => Sys2Proof.Machine.execOraIndY b1 s
  | .eorImm b1 => Sys2Proof.Machine.execEorImm b1 s
  | .eorZp b1 => Sys2Proof.Machine.execEorZp b1 s
  | .eorZpX b1 => Sys2Proof.Machine.execEorZpX b1 s
  | .eorAbs b1 b2 => Sys2Proof.Machine.execEorAbs b1 b2 s
  | .eorAbsX b1 b2 => Sys2Proof.Machine.execEorAbsX b1 b2 s
  | .eorAbsY b1 b2 => Sys2Proof.Machine.execEorAbsY b1 b2 s
  | .eorIndX b1 => Sys2Proof.Machine.execEorIndX b1 s
  | .eorIndY b1 => Sys2Proof.Machine.execEorIndY b1 s
  | .bitZp b1 => Sys2Proof.Machine.execBitZp b1 s
  | .bitAbs b1 b2 => Sys2Proof.Machine.execBitAbs b1 b2 s
  | .ldaImm b1 => Sys2Proof.Machine.execLdaImm b1 s
  | .ldaZp b1 => Sys2Proof.Machine.execLdaZp b1 s
  | .ldaZpX b1 => Sys2Proof.Machine.execLdaZpX b1 s
  | .ldaAbs b1 b2 => Sys2Proof.Machine.execLdaAbs b1 b2 s
  | .ldaAbsX b1 b2 => Sys2Proof.Machine.execLdaAbsX b1 b2 s
  | .ldaAbsY b1 b2 => Sys2Proof.Machine.execLdaAbsY b1 b2 s
  | .ldaIndX b1 => Sys2Proof.Machine.execLdaIndX b1 s
  | .ldaIndY b1 => Sys2Proof.Machine.execLdaIndY b1 s
  | .ldxImm b1 => Sys2Proof.Machine.execLdxImm b1 s
  | .ldxZp b1 => Sys2Proof.Machine.execLdxZp b1 s
  | .ldxZpY b1 => Sys2Proof.Machine.execLdxZpY b1 s
  | .ldxAbs b1 b2 => Sys2Proof.Machine.execLdxAbs b1 b2 s
  | .ldxAbsY b1 b2 => Sys2Proof.Machine.execLdxAbsY b1 b2 s
  | .ldyImm b1 => Sys2Proof.Machine.execLdyImm b1 s
  | .ldyZp b1 => Sys2Proof.Machine.execLdyZp b1 s
  | .ldyZpX b1 => Sys2Proof.Machine.execLdyZpX b1 s
  | .ldyAbs b1 b2 => Sys2Proof.Machine.execLdyAbs b1 b2 s
  | .ldyAbsX b1 b2 => Sys2Proof.Machine.execLdyAbsX b1 b2 s
  | .staZp b1 => Sys2Proof.Machine.execStaZp b1 s
  | .staZpX b1 => Sys2Proof.Machine.execStaZpX b1 s
  | .staAbs b1 b2 => Sys2Proof.Machine.execStaAbs b1 b2 s
  | .staAbsX b1 b2 => Sys2Proof.Machine.execStaAbsX b1 b2 s
  | .staAbsY b1 b2 => Sys2Proof.Machine.execStaAbsY b1 b2 s
  | .staIndX b1 => Sys2Proof.Machine.execStaIndX b1 s
  | .staIndY b1 => Sys2Proof.Machine.execStaIndY b1 s
  | .stxZp b1 => Sys2Proof.Machine.execStxZp b1 s
  | .stxZpY b1 => Sys2Proof.Machine.execStxZpY b1 s
  | .stxAbs b1 b2 => Sys2Proof.Machine.execStxAbs b1 b2 s
  | .styZp b1 => Sys2Proof.Machine.execStyZp b1 s
  | .styZpX b1 => Sys2Proof.Machine.execStyZpX b1 s
  | .styAbs b1 b2 => Sys2Proof.Machine.execStyAbs b1 b2 s
  | .tax => Sys2Proof.Machine.execTax s
  | .tay => Sys2Proof.Machine.execTay s
  | .txa => Sys2Proof.Machine.execTxa s
  | .tya => Sys2Proof.Machine.execTya s
  | .tsx => Sys2Proof.Machine.execTsx s
  | .txs => Sys2Proof.Machine.execTxs s
  | .bcc b1 => Sys2Proof.Machine.execBcc b1 s
  | .bcs b1 => Sys2Proof.Machine.execBcs b1 s
  | .beq b1 => Sys2Proof.Machine.execBeq b1 s
  | .bne b1 => Sys2Proof.Machine.execBne b1 s
  | .bmi b1 => Sys2Proof.Machine.execBmi b1 s
  | .bpl b1 => Sys2Proof.Machine.execBpl b1 s
  | .bvc b1 => Sys2Proof.Machine.execBvc b1 s
  | .bvs b1 => Sys2Proof.Machine.execBvs b1 s
  | .pha => Sys2Proof.Machine.execPha s
  | .php => Sys2Proof.Machine.execPhp s
  | .pla => Sys2Proof.Machine.execPla s
  | .plp => Sys2Proof.Machine.execPlp s
  | .clc => Sys2Proof.Machine.execClc s
  | .sec => Sys2Proof.Machine.execSec s
  | .cli => Sys2Proof.Machine.execCli s
  | .sei => Sys2Proof.Machine.execSei s
  | .cld => Sys2Proof.Machine.execCld s
  | .sed => Sys2Proof.Machine.execSed s
  | .clv => Sys2Proof.Machine.execClv s
  | .jmpAbs b1 b2 => Sys2Proof.Machine.execJmpAbs b1 b2 s
  | .jmpInd b1 b2 => Sys2Proof.Machine.execJmpInd b1 b2 s
  | .jsr b1 b2 => Sys2Proof.Machine.execJsr b1 b2 s
  | .rts => Sys2Proof.Machine.execRts s
  | .rti => Sys2Proof.Machine.execRti s
  | .cmpImm b1 => Sys2Proof.Machine.execCmpImm b1 s
  | .cmpZp b1 => Sys2Proof.Machine.execCmpZp b1 s
  | .cmpZpX b1 => Sys2Proof.Machine.execCmpZpX b1 s
  | .cmpAbs b1 b2 => Sys2Proof.Machine.execCmpAbs b1 b2 s
  | .cmpAbsX b1 b2 => Sys2Proof.Machine.execCmpAbsX b1 b2 s
  | .cmpAbsY b1 b2 => Sys2Proof.Machine.execCmpAbsY b1 b2 s
  | .cmpIndX b1 => Sys2Proof.Machine.execCmpIndX b1 s
  | .cmpIndY b1 => Sys2Proof.Machine.execCmpIndY b1 s
  | .cpxImm b1 => Sys2Proof.Machine.execCpxImm b1 s
  | .cpxZp b1 => Sys2Proof.Machine.execCpxZp b1 s
  | .cpxAbs b1 b2 => Sys2Proof.Machine.execCpxAbs b1 b2 s
  | .cpyImm b1 => Sys2Proof.Machine.execCpyImm b1 s
  | .cpyZp b1 => Sys2Proof.Machine.execCpyZp b1 s
  | .cpyAbs b1 b2 => Sys2Proof.Machine.execCpyAbs b1 b2 s
  | .aslAcc => Sys2Proof.Machine.execAslAcc s
  | .aslZp b1 => Sys2Proof.Machine.execAslZp b1 s
  | .aslZpX b1 => Sys2Proof.Machine.execAslZpX b1 s
  | .aslAbs b1 b2 => Sys2Proof.Machine.execAslAbs b1 b2 s
  | .aslAbsX b1 b2 => Sys2Proof.Machine.execAslAbsX b1 b2 s
  | .lsrAcc => Sys2Proof.Machine.execLsrAcc s
  | .lsrZp b1 => Sys2Proof.Machine.execLsrZp b1 s
  | .lsrZpX b1 => Sys2Proof.Machine.execLsrZpX b1 s
  | .lsrAbs b1 b2 => Sys2Proof.Machine.execLsrAbs b1 b2 s
  | .lsrAbsX b1 b2 => Sys2Proof.Machine.execLsrAbsX b1 b2 s
  | .rolAcc => Sys2Proof.Machine.execRolAcc s
  | .rolZp b1 => Sys2Proof.Machine.execRolZp b1 s
  | .rolZpX b1 => Sys2Proof.Machine.execRolZpX b1 s
  | .rolAbs b1 b2 => Sys2Proof.Machine.execRolAbs b1 b2 s
  | .rolAbsX b1 b2 => Sys2Proof.Machine.execRolAbsX b1 b2 s
  | .rorAcc => Sys2Proof.Machine.execRorAcc s
  | .rorZp b1 => Sys2Proof.Machine.execRorZp b1 s
  | .rorZpX b1 => Sys2Proof.Machine.execRorZpX b1 s
  | .rorAbs b1 b2 => Sys2Proof.Machine.execRorAbs b1 b2 s
  | .rorAbsX b1 b2 => Sys2Proof.Machine.execRorAbsX b1 b2 s
  | .incZp b1 => Sys2Proof.Machine.execIncZp b1 s
  | .incZpX b1 => Sys2Proof.Machine.execIncZpX b1 s
  | .incAbs b1 b2 => Sys2Proof.Machine.execIncAbs b1 b2 s
  | .incAbsX b1 b2 => Sys2Proof.Machine.execIncAbsX b1 b2 s
  | .decZp b1 => Sys2Proof.Machine.execDecZp b1 s
  | .decZpX b1 => Sys2Proof.Machine.execDecZpX b1 s
  | .decAbs b1 b2 => Sys2Proof.Machine.execDecAbs b1 b2 s
  | .decAbsX b1 b2 => Sys2Proof.Machine.execDecAbsX b1 b2 s
  | .inx => Sys2Proof.Machine.execInx s
  | .iny => Sys2Proof.Machine.execIny s
  | .dex => Sys2Proof.Machine.execDex s
  | .dey => Sys2Proof.Machine.execDey s
  | .nop => Sys2Proof.Machine.execNop s
  | .brk => Sys2Proof.Machine.execBrk s

end Sys2Proof.Machine
end

