-- ==== Sys2Proof/WellFormed.lean ====
section
/-! DEFINITION. Which forms are instructions of the unit. A mnemonic paired with a mode for which R79 has no cell
is not an instruction, and a form holds no operand byte that its mode does not have (R82). Every operand
byte of an instruction may have any value (R74), so there is no check on the bytes that a mode does have:
their width is their type. -/

namespace Sys2Proof

/-- The modes in which R79 gives the mnemonic an encoding. -/
def Mnemonic.modes : Mnemonic → List Mode
  | .adc | .sbc | .and | .ora | .eor | .lda | .cmp =>
    [.immediate, .zeroPage, .zeroPageX, .absolute, .absoluteX, .absoluteY, .indexedIndirect, .indirectIndexed]
  | .bit =>
    [.zeroPage, .absolute]
  | .ldx =>
    [.immediate, .zeroPage, .zeroPageY, .absolute, .absoluteY]
  | .ldy =>
    [.immediate, .zeroPage, .zeroPageX, .absolute, .absoluteX]
  | .sta =>
    [.zeroPage, .zeroPageX, .absolute, .absoluteX, .absoluteY, .indexedIndirect, .indirectIndexed]
  | .stx =>
    [.zeroPage, .zeroPageY, .absolute]
  | .sty =>
    [.zeroPage, .zeroPageX, .absolute]
  | .tax | .tay | .txa | .tya | .tsx | .txs | .pha | .php | .pla | .plp
  | .clc | .sec | .cli | .sei | .cld | .sed | .clv | .rts | .rti | .inx
  | .iny | .dex | .dey | .nop | .brk =>
    [.implied]
  | .bcc | .bcs | .beq | .bne | .bmi | .bpl | .bvc | .bvs =>
    [.relative]
  | .jmp =>
    [.absolute, .indirect]
  | .jsr =>
    [.absolute]
  | .cpx | .cpy =>
    [.immediate, .zeroPage, .absolute]
  | .asl | .lsr | .rol | .ror =>
    [.accumulator, .zeroPage, .zeroPageX, .absolute, .absoluteX]
  | .inc | .dec =>
    [.zeroPage, .zeroPageX, .absolute, .absoluteX]

/-- R79 has a cell for this mnemonic in this mode. -/
def Form.hasEncoding (f : Form) : Bool := f.mnemonic.modes.contains f.mode

/-- A byte the mode does not have is 0x00 (R82). -/
def Form.unusedBytesZero (f : Form) : Bool :=
  (1 ≤ f.mode.operandBytes || f.b1 == 0) && (2 ≤ f.mode.operandBytes || f.b2 == 0)

/-- The form is an instruction of the unit. -/
def Form.wellFormed (f : Form) : Bool := f.hasEncoding && f.unusedBytesZero

/-- The instruction's form passes both checks. -/
def Instr.wellFormed (i : Instr) : Bool := i.form.wellFormed

end Sys2Proof
end

