-- ==== Sys2Proof/Decode.lean ====
section
/-! DEFINITION. The decoder (R71 to R74, R78), the encoder after it (R70, R79), the dispatch record of an opcode
byte (R73), and the host's view of the decoder. The opcode byte is decoded whole: a 256-way lookup, written
here as the sixteen rows of R78's table. -/

namespace Sys2Proof

/-- Why bytes are not an instruction. The first is the only verdict R74 gives a decoder. The second is about a
list of bytes that ends too soon, which the memory of the unit never does. -/
inductive DecodeReject where
  /-- The opcode byte is one of the 105 unassigned values (R80). -/
  | unassigned (op : Byte)
  /-- The list ends before the instruction's last byte. -/
  | truncated
  deriving DecidableEq, Repr

/-- Row 0x of R78: the instruction of opcode 0x0`lo`. -/
def decodeRow0 (lo : Nat) (b1 b2 : Byte) : Option Instr :=
  match lo with
  | 0x0 => some .brk
  | 0x1 => some (.oraIndX b1)
  | 0x5 => some (.oraZp b1)
  | 0x6 => some (.aslZp b1)
  | 0x8 => some .php
  | 0x9 => some (.oraImm b1)
  | 0xA => some .aslAcc
  | 0xD => some (.oraAbs b1 b2)
  | 0xE => some (.aslAbs b1 b2)
  | _ => none

/-- Row 1x of R78: the instruction of opcode 0x1`lo`. -/
def decodeRow1 (lo : Nat) (b1 b2 : Byte) : Option Instr :=
  match lo with
  | 0x0 => some (.bpl b1)
  | 0x1 => some (.oraIndY b1)
  | 0x5 => some (.oraZpX b1)
  | 0x6 => some (.aslZpX b1)
  | 0x8 => some .clc
  | 0x9 => some (.oraAbsY b1 b2)
  | 0xD => some (.oraAbsX b1 b2)
  | 0xE => some (.aslAbsX b1 b2)
  | _ => none

/-- Row 2x of R78: the instruction of opcode 0x2`lo`. -/
def decodeRow2 (lo : Nat) (b1 b2 : Byte) : Option Instr :=
  match lo with
  | 0x0 => some (.jsr b1 b2)
  | 0x1 => some (.andIndX b1)
  | 0x4 => some (.bitZp b1)
  | 0x5 => some (.andZp b1)
  | 0x6 => some (.rolZp b1)
  | 0x8 => some .plp
  | 0x9 => some (.andImm b1)
  | 0xA => some .rolAcc
  | 0xC => some (.bitAbs b1 b2)
  | 0xD => some (.andAbs b1 b2)
  | 0xE => some (.rolAbs b1 b2)
  | _ => none

/-- Row 3x of R78: the instruction of opcode 0x3`lo`. -/
def decodeRow3 (lo : Nat) (b1 b2 : Byte) : Option Instr :=
  match lo with
  | 0x0 => some (.bmi b1)
  | 0x1 => some (.andIndY b1)
  | 0x5 => some (.andZpX b1)
  | 0x6 => some (.rolZpX b1)
  | 0x8 => some .sec
  | 0x9 => some (.andAbsY b1 b2)
  | 0xD => some (.andAbsX b1 b2)
  | 0xE => some (.rolAbsX b1 b2)
  | _ => none

/-- Row 4x of R78: the instruction of opcode 0x4`lo`. -/
def decodeRow4 (lo : Nat) (b1 b2 : Byte) : Option Instr :=
  match lo with
  | 0x0 => some .rti
  | 0x1 => some (.eorIndX b1)
  | 0x5 => some (.eorZp b1)
  | 0x6 => some (.lsrZp b1)
  | 0x8 => some .pha
  | 0x9 => some (.eorImm b1)
  | 0xA => some .lsrAcc
  | 0xC => some (.jmpAbs b1 b2)
  | 0xD => some (.eorAbs b1 b2)
  | 0xE => some (.lsrAbs b1 b2)
  | _ => none

/-- Row 5x of R78: the instruction of opcode 0x5`lo`. -/
def decodeRow5 (lo : Nat) (b1 b2 : Byte) : Option Instr :=
  match lo with
  | 0x0 => some (.bvc b1)
  | 0x1 => some (.eorIndY b1)
  | 0x5 => some (.eorZpX b1)
  | 0x6 => some (.lsrZpX b1)
  | 0x8 => some .cli
  | 0x9 => some (.eorAbsY b1 b2)
  | 0xD => some (.eorAbsX b1 b2)
  | 0xE => some (.lsrAbsX b1 b2)
  | _ => none

/-- Row 6x of R78: the instruction of opcode 0x6`lo`. -/
def decodeRow6 (lo : Nat) (b1 b2 : Byte) : Option Instr :=
  match lo with
  | 0x0 => some .rts
  | 0x1 => some (.adcIndX b1)
  | 0x5 => some (.adcZp b1)
  | 0x6 => some (.rorZp b1)
  | 0x8 => some .pla
  | 0x9 => some (.adcImm b1)
  | 0xA => some .rorAcc
  | 0xC => some (.jmpInd b1 b2)
  | 0xD => some (.adcAbs b1 b2)
  | 0xE => some (.rorAbs b1 b2)
  | _ => none

/-- Row 7x of R78: the instruction of opcode 0x7`lo`. -/
def decodeRow7 (lo : Nat) (b1 b2 : Byte) : Option Instr :=
  match lo with
  | 0x0 => some (.bvs b1)
  | 0x1 => some (.adcIndY b1)
  | 0x5 => some (.adcZpX b1)
  | 0x6 => some (.rorZpX b1)
  | 0x8 => some .sei
  | 0x9 => some (.adcAbsY b1 b2)
  | 0xD => some (.adcAbsX b1 b2)
  | 0xE => some (.rorAbsX b1 b2)
  | _ => none

/-- Row 8x of R78: the instruction of opcode 0x8`lo`. -/
def decodeRow8 (lo : Nat) (b1 b2 : Byte) : Option Instr :=
  match lo with
  | 0x1 => some (.staIndX b1)
  | 0x4 => some (.styZp b1)
  | 0x5 => some (.staZp b1)
  | 0x6 => some (.stxZp b1)
  | 0x8 => some .dey
  | 0xA => some .txa
  | 0xC => some (.styAbs b1 b2)
  | 0xD => some (.staAbs b1 b2)
  | 0xE => some (.stxAbs b1 b2)
  | _ => none

/-- Row 9x of R78: the instruction of opcode 0x9`lo`. -/
def decodeRow9 (lo : Nat) (b1 b2 : Byte) : Option Instr :=
  match lo with
  | 0x0 => some (.bcc b1)
  | 0x1 => some (.staIndY b1)
  | 0x4 => some (.styZpX b1)
  | 0x5 => some (.staZpX b1)
  | 0x6 => some (.stxZpY b1)
  | 0x8 => some .tya
  | 0x9 => some (.staAbsY b1 b2)
  | 0xA => some .txs
  | 0xD => some (.staAbsX b1 b2)
  | _ => none

/-- Row Ax of R78: the instruction of opcode 0xA`lo`. -/
def decodeRowA (lo : Nat) (b1 b2 : Byte) : Option Instr :=
  match lo with
  | 0x0 => some (.ldyImm b1)
  | 0x1 => some (.ldaIndX b1)
  | 0x2 => some (.ldxImm b1)
  | 0x4 => some (.ldyZp b1)
  | 0x5 => some (.ldaZp b1)
  | 0x6 => some (.ldxZp b1)
  | 0x8 => some .tay
  | 0x9 => some (.ldaImm b1)
  | 0xA => some .tax
  | 0xC => some (.ldyAbs b1 b2)
  | 0xD => some (.ldaAbs b1 b2)
  | 0xE => some (.ldxAbs b1 b2)
  | _ => none

/-- Row Bx of R78: the instruction of opcode 0xB`lo`. -/
def decodeRowB (lo : Nat) (b1 b2 : Byte) : Option Instr :=
  match lo with
  | 0x0 => some (.bcs b1)
  | 0x1 => some (.ldaIndY b1)
  | 0x4 => some (.ldyZpX b1)
  | 0x5 => some (.ldaZpX b1)
  | 0x6 => some (.ldxZpY b1)
  | 0x8 => some .clv
  | 0x9 => some (.ldaAbsY b1 b2)
  | 0xA => some .tsx
  | 0xC => some (.ldyAbsX b1 b2)
  | 0xD => some (.ldaAbsX b1 b2)
  | 0xE => some (.ldxAbsY b1 b2)
  | _ => none

/-- Row Cx of R78: the instruction of opcode 0xC`lo`. -/
def decodeRowC (lo : Nat) (b1 b2 : Byte) : Option Instr :=
  match lo with
  | 0x0 => some (.cpyImm b1)
  | 0x1 => some (.cmpIndX b1)
  | 0x4 => some (.cpyZp b1)
  | 0x5 => some (.cmpZp b1)
  | 0x6 => some (.decZp b1)
  | 0x8 => some .iny
  | 0x9 => some (.cmpImm b1)
  | 0xA => some .dex
  | 0xC => some (.cpyAbs b1 b2)
  | 0xD => some (.cmpAbs b1 b2)
  | 0xE => some (.decAbs b1 b2)
  | _ => none

/-- Row Dx of R78: the instruction of opcode 0xD`lo`. -/
def decodeRowD (lo : Nat) (b1 b2 : Byte) : Option Instr :=
  match lo with
  | 0x0 => some (.bne b1)
  | 0x1 => some (.cmpIndY b1)
  | 0x5 => some (.cmpZpX b1)
  | 0x6 => some (.decZpX b1)
  | 0x8 => some .cld
  | 0x9 => some (.cmpAbsY b1 b2)
  | 0xD => some (.cmpAbsX b1 b2)
  | 0xE => some (.decAbsX b1 b2)
  | _ => none

/-- Row Ex of R78: the instruction of opcode 0xE`lo`. -/
def decodeRowE (lo : Nat) (b1 b2 : Byte) : Option Instr :=
  match lo with
  | 0x0 => some (.cpxImm b1)
  | 0x1 => some (.sbcIndX b1)
  | 0x4 => some (.cpxZp b1)
  | 0x5 => some (.sbcZp b1)
  | 0x6 => some (.incZp b1)
  | 0x8 => some .inx
  | 0x9 => some (.sbcImm b1)
  | 0xA => some .nop
  | 0xC => some (.cpxAbs b1 b2)
  | 0xD => some (.sbcAbs b1 b2)
  | 0xE => some (.incAbs b1 b2)
  | _ => none

/-- Row Fx of R78: the instruction of opcode 0xF`lo`. -/
def decodeRowF (lo : Nat) (b1 b2 : Byte) : Option Instr :=
  match lo with
  | 0x0 => some (.beq b1)
  | 0x1 => some (.sbcIndY b1)
  | 0x5 => some (.sbcZpX b1)
  | 0x6 => some (.incZpX b1)
  | 0x8 => some .sed
  | 0x9 => some (.sbcAbsY b1 b2)
  | 0xD => some (.sbcAbsX b1 b2)
  | 0xE => some (.incAbsX b1 b2)
  | _ => none

/-- The instruction an opcode byte and the two bytes after it stand for, if the opcode is assigned (R78). A byte
that the mode does not have is not used (R75). -/
def decodeOpcode (op b1 b2 : Byte) : Option Instr :=
  match op.toNat / 16 with
  | 0x0 => decodeRow0 (op.toNat % 16) b1 b2
  | 0x1 => decodeRow1 (op.toNat % 16) b1 b2
  | 0x2 => decodeRow2 (op.toNat % 16) b1 b2
  | 0x3 => decodeRow3 (op.toNat % 16) b1 b2
  | 0x4 => decodeRow4 (op.toNat % 16) b1 b2
  | 0x5 => decodeRow5 (op.toNat % 16) b1 b2
  | 0x6 => decodeRow6 (op.toNat % 16) b1 b2
  | 0x7 => decodeRow7 (op.toNat % 16) b1 b2
  | 0x8 => decodeRow8 (op.toNat % 16) b1 b2
  | 0x9 => decodeRow9 (op.toNat % 16) b1 b2
  | 0xA => decodeRowA (op.toNat % 16) b1 b2
  | 0xB => decodeRowB (op.toNat % 16) b1 b2
  | 0xC => decodeRowC (op.toNat % 16) b1 b2
  | 0xD => decodeRowD (op.toNat % 16) b1 b2
  | 0xE => decodeRowE (op.toNat % 16) b1 b2
  | 0xF => decodeRowF (op.toNat % 16) b1 b2
  | _ => none

/-- The decoder: total on any three bytes, rejecting an unassigned opcode by name (R74). -/
def decode (op b1 b2 : Byte) : Except DecodeReject Instr :=
  match decodeOpcode op b1 b2 with
  | some i => .ok i
  | none => .error (.unassigned op)

/-- Decoding the front of a list of bytes: the instruction and the bytes after it. -/
def decodeBytes : List Byte → Except DecodeReject (Instr × List Byte)
  | [] => .error .truncated
  | op :: rest =>
    match decode op (rest.getD 0 0) (rest.getD 1 0) with
    | .error r => .error r
    | .ok i =>
      if rest.length < i.mode.operandBytes then .error .truncated
      else .ok (i, rest.drop i.mode.operandBytes)

/-- The encoder: an instruction's bytes in memory order, opcode byte first (R70), with the opcode bytes of R79. -/
def encode : Instr → List Byte
  | .adcImm b1 => [0x69, b1]
  | .adcZp b1 => [0x65, b1]
  | .adcZpX b1 => [0x75, b1]
  | .adcAbs b1 b2 => [0x6D, b1, b2]
  | .adcAbsX b1 b2 => [0x7D, b1, b2]
  | .adcAbsY b1 b2 => [0x79, b1, b2]
  | .adcIndX b1 => [0x61, b1]
  | .adcIndY b1 => [0x71, b1]
  | .sbcImm b1 => [0xE9, b1]
  | .sbcZp b1 => [0xE5, b1]
  | .sbcZpX b1 => [0xF5, b1]
  | .sbcAbs b1 b2 => [0xED, b1, b2]
  | .sbcAbsX b1 b2 => [0xFD, b1, b2]
  | .sbcAbsY b1 b2 => [0xF9, b1, b2]
  | .sbcIndX b1 => [0xE1, b1]
  | .sbcIndY b1 => [0xF1, b1]
  | .andImm b1 => [0x29, b1]
  | .andZp b1 => [0x25, b1]
  | .andZpX b1 => [0x35, b1]
  | .andAbs b1 b2 => [0x2D, b1, b2]
  | .andAbsX b1 b2 => [0x3D, b1, b2]
  | .andAbsY b1 b2 => [0x39, b1, b2]
  | .andIndX b1 => [0x21, b1]
  | .andIndY b1 => [0x31, b1]
  | .oraImm b1 => [0x09, b1]
  | .oraZp b1 => [0x05, b1]
  | .oraZpX b1 => [0x15, b1]
  | .oraAbs b1 b2 => [0x0D, b1, b2]
  | .oraAbsX b1 b2 => [0x1D, b1, b2]
  | .oraAbsY b1 b2 => [0x19, b1, b2]
  | .oraIndX b1 => [0x01, b1]
  | .oraIndY b1 => [0x11, b1]
  | .eorImm b1 => [0x49, b1]
  | .eorZp b1 => [0x45, b1]
  | .eorZpX b1 => [0x55, b1]
  | .eorAbs b1 b2 => [0x4D, b1, b2]
  | .eorAbsX b1 b2 => [0x5D, b1, b2]
  | .eorAbsY b1 b2 => [0x59, b1, b2]
  | .eorIndX b1 => [0x41, b1]
  | .eorIndY b1 => [0x51, b1]
  | .bitZp b1 => [0x24, b1]
  | .bitAbs b1 b2 => [0x2C, b1, b2]
  | .ldaImm b1 => [0xA9, b1]
  | .ldaZp b1 => [0xA5, b1]
  | .ldaZpX b1 => [0xB5, b1]
  | .ldaAbs b1 b2 => [0xAD, b1, b2]
  | .ldaAbsX b1 b2 => [0xBD, b1, b2]
  | .ldaAbsY b1 b2 => [0xB9, b1, b2]
  | .ldaIndX b1 => [0xA1, b1]
  | .ldaIndY b1 => [0xB1, b1]
  | .ldxImm b1 => [0xA2, b1]
  | .ldxZp b1 => [0xA6, b1]
  | .ldxZpY b1 => [0xB6, b1]
  | .ldxAbs b1 b2 => [0xAE, b1, b2]
  | .ldxAbsY b1 b2 => [0xBE, b1, b2]
  | .ldyImm b1 => [0xA0, b1]
  | .ldyZp b1 => [0xA4, b1]
  | .ldyZpX b1 => [0xB4, b1]
  | .ldyAbs b1 b2 => [0xAC, b1, b2]
  | .ldyAbsX b1 b2 => [0xBC, b1, b2]
  | .staZp b1 => [0x85, b1]
  | .staZpX b1 => [0x95, b1]
  | .staAbs b1 b2 => [0x8D, b1, b2]
  | .staAbsX b1 b2 => [0x9D, b1, b2]
  | .staAbsY b1 b2 => [0x99, b1, b2]
  | .staIndX b1 => [0x81, b1]
  | .staIndY b1 => [0x91, b1]
  | .stxZp b1 => [0x86, b1]
  | .stxZpY b1 => [0x96, b1]
  | .stxAbs b1 b2 => [0x8E, b1, b2]
  | .styZp b1 => [0x84, b1]
  | .styZpX b1 => [0x94, b1]
  | .styAbs b1 b2 => [0x8C, b1, b2]
  | .tax => [0xAA]
  | .tay => [0xA8]
  | .txa => [0x8A]
  | .tya => [0x98]
  | .tsx => [0xBA]
  | .txs => [0x9A]
  | .bcc b1 => [0x90, b1]
  | .bcs b1 => [0xB0, b1]
  | .beq b1 => [0xF0, b1]
  | .bne b1 => [0xD0, b1]
  | .bmi b1 => [0x30, b1]
  | .bpl b1 => [0x10, b1]
  | .bvc b1 => [0x50, b1]
  | .bvs b1 => [0x70, b1]
  | .pha => [0x48]
  | .php => [0x08]
  | .pla => [0x68]
  | .plp => [0x28]
  | .clc => [0x18]
  | .sec => [0x38]
  | .cli => [0x58]
  | .sei => [0x78]
  | .cld => [0xD8]
  | .sed => [0xF8]
  | .clv => [0xB8]
  | .jmpAbs b1 b2 => [0x4C, b1, b2]
  | .jmpInd b1 b2 => [0x6C, b1, b2]
  | .jsr b1 b2 => [0x20, b1, b2]
  | .rts => [0x60]
  | .rti => [0x40]
  | .cmpImm b1 => [0xC9, b1]
  | .cmpZp b1 => [0xC5, b1]
  | .cmpZpX b1 => [0xD5, b1]
  | .cmpAbs b1 b2 => [0xCD, b1, b2]
  | .cmpAbsX b1 b2 => [0xDD, b1, b2]
  | .cmpAbsY b1 b2 => [0xD9, b1, b2]
  | .cmpIndX b1 => [0xC1, b1]
  | .cmpIndY b1 => [0xD1, b1]
  | .cpxImm b1 => [0xE0, b1]
  | .cpxZp b1 => [0xE4, b1]
  | .cpxAbs b1 b2 => [0xEC, b1, b2]
  | .cpyImm b1 => [0xC0, b1]
  | .cpyZp b1 => [0xC4, b1]
  | .cpyAbs b1 b2 => [0xCC, b1, b2]
  | .aslAcc => [0x0A]
  | .aslZp b1 => [0x06, b1]
  | .aslZpX b1 => [0x16, b1]
  | .aslAbs b1 b2 => [0x0E, b1, b2]
  | .aslAbsX b1 b2 => [0x1E, b1, b2]
  | .lsrAcc => [0x4A]
  | .lsrZp b1 => [0x46, b1]
  | .lsrZpX b1 => [0x56, b1]
  | .lsrAbs b1 b2 => [0x4E, b1, b2]
  | .lsrAbsX b1 b2 => [0x5E, b1, b2]
  | .rolAcc => [0x2A]
  | .rolZp b1 => [0x26, b1]
  | .rolZpX b1 => [0x36, b1]
  | .rolAbs b1 b2 => [0x2E, b1, b2]
  | .rolAbsX b1 b2 => [0x3E, b1, b2]
  | .rorAcc => [0x6A]
  | .rorZp b1 => [0x66, b1]
  | .rorZpX b1 => [0x76, b1]
  | .rorAbs b1 b2 => [0x6E, b1, b2]
  | .rorAbsX b1 b2 => [0x7E, b1, b2]
  | .incZp b1 => [0xE6, b1]
  | .incZpX b1 => [0xF6, b1]
  | .incAbs b1 b2 => [0xEE, b1, b2]
  | .incAbsX b1 b2 => [0xFE, b1, b2]
  | .decZp b1 => [0xC6, b1]
  | .decZpX b1 => [0xD6, b1]
  | .decAbs b1 b2 => [0xCE, b1, b2]
  | .decAbsX b1 b2 => [0xDE, b1, b2]
  | .inx => [0xE8]
  | .iny => [0xC8]
  | .dex => [0xCA]
  | .dey => [0x88]
  | .nop => [0xEA]
  | .brk => [0x00]

/-- The mnemonics that read a location, compute and write the same location (R200). -/
def Mnemonic.isReadModifyWrite : Mnemonic → Bool
  | .asl | .lsr | .rol | .ror | .inc | .dec => true
  | _ => false

/-- The mnemonics that store a register (R134 to R136). -/
def Mnemonic.isStore : Mnemonic → Bool
  | .sta | .stx | .sty => true
  | _ => false

/-- The "base cycle count" of a dispatch record (R262, R83). Informative: nothing in the unit reads it. -/
def baseCycles (m : Mnemonic) : Mode → Nat
  | .implied =>
    match m with
    | .pha | .php => 3
    | .pla | .plp => 4
    | .rts | .rti => 6
    | .brk => 7
    | _ => 2
  | .accumulator | .immediate | .relative => 2
  | .zeroPage => if m.isReadModifyWrite then 5 else 3
  | .zeroPageX | .zeroPageY => if m.isReadModifyWrite then 6 else 4
  | .absolute =>
    match m with
    | .jmp => 3
    | .jsr => 6
    | _ => if m.isReadModifyWrite then 6 else 4
  | .absoluteX | .absoluteY =>
    if m.isReadModifyWrite then 7 else if m.isStore then 5 else 4
  | .indirect => 5
  | .indexedIndirect => 6
  | .indirectIndexed => if m.isStore then 6 else 5

/-- The `page_cross_extra_cycle` mark of a dispatch record (R262, R83). Informative. -/
def pageCrossExtraCycle (m : Mnemonic) : Mode → Bool
  | .relative => true
  | .absoluteX | .absoluteY | .indirectIndexed => !(m.isReadModifyWrite || m.isStore)
  | _ => false

/-- A record of `opcode_dispatch_rom` (R73). -/
structure DispatchRecord where
  mnemonic            : Mnemonic
  mode                : Mode
  operandBytes        : Nat
  baseCycles          : Nat
  pageCrossExtraCycle : Bool
  deriving DecidableEq, Repr

/-- The dispatch record of an instruction. -/
def Instr.record (i : Instr) : DispatchRecord :=
  { mnemonic := i.mnemonic, mode := i.mode, operandBytes := i.mode.operandBytes
    baseCycles := Sys2Proof.baseCycles i.mnemonic i.mode
    pageCrossExtraCycle := Sys2Proof.pageCrossExtraCycle i.mnemonic i.mode }

/-- `opcode_dispatch_rom` (R73): the record of an opcode byte, `none` for an unassigned one. It does not depend on
the operand bytes (R72). -/
def dispatchRom (op : Byte) : Option DispatchRecord :=
  (decodeOpcode op 0 0).map Instr.record

/-- What the decoder reads from an instruction whose bits are `w`, bit 0 the least significant bit of the first
byte; every bit from `nbits` up is 0. The bytes stand in memory in ascending order of address (R70). -/
def decodeTableWord (nbits w : Nat) : Option Instr :=
  let v := w % 2 ^ nbits
  match decode (BitVec.ofNat 8 v) (BitVec.ofNat 8 (v / 256)) (BitVec.ofNat 8 (v / 65536)) with
  | .ok i => some i
  | .error _ => none

end Sys2Proof
end

