-- ==== Sys2Proof/Machine/Fetch.lean ====
section
/-! DEFINITION. What a step does around the execution of an instruction (R75): the phase, the fetch, the step of a
Halted unit, the step whose opcode byte is unassigned, and the step put together. -/

namespace Sys2Proof.Machine

open Sys2Proof

/-- `phase <- Stepping`, the first thing a step does (R35, R75). -/
def State.beginStep (s : State) : State := { s with phase := .stepping }

/-- The `n` bytes at `pc` and upward, wrapping modulo 65536 (R25, R70). -/
def State.bytesAtPc (s : State) (n : Nat) : List Byte :=
  (List.range n).map fun k => s.read (s.after k)

/-- Fetch and decode the instruction at `pc`: opcode byte, then operand bytes (R70, R75). A read has no effect (R51), so
reading a byte that a shorter instruction does not have changes nothing (log 7). -/
def State.fetchDecode (s : State) : Except DecodeReject Instr :=
  decode (s.read (s.after 0)) (s.read (s.after 1)) (s.read (s.after 2))

/-- A step taken while Halted changes no state (R76). -/
def State.stepHalted (s : State) : Result := .next s

/-- The step whose opcode byte is unassigned (R222). The fault report is the byte at `pc` and `pc` itself. -/
def State.stepIllegal (s : State) : Result := .next (s.raiseIllegalOpcode (s.read s.pc) s.pc)

/-- `Step()` (R75) over an execution of instructions: nothing more when Halted (R76), else the instruction at `pc`, or the
illegal-opcode step (R222). -/
def stepWith (execute : Instr → State → Result) (s : State) : Result :=
  let s := s.beginStep
  match s.runState with
  | .halted => s.stepHalted
  | .running =>
    match s.fetchDecode with
    | .ok i => execute i s
    | .error _ => s.stepIllegal

/-- Replace the bytes at `pc` and upward, wrapping modulo 65536. -/
def State.storeAtPc (s : State) (bs : List Byte) : State :=
  (bs.zipIdx).foldl (fun t b => t.write (s.after b.2) b.1) s

/-- The control state in which a step fetches: Running (R34, R75). -/
def State.makeRunning (s : State) : State := { s with runState := .running, haltCause := .none }

end Sys2Proof.Machine
end

