-- ==== Sys2Proof/Machine/Step.lean ====
section
/-! DEFINITION. One step of the unit (R75), and where the host places an instruction for the next step to run. -/

namespace Sys2Proof.Machine

open Sys2Proof

/-- `Step()` (R75), at the default policy. -/
def step (s : State) : Host.Outcome State Fault Refusal := stepWith exec s

/-- The state with an instruction's bits stored where the next step fetches: three bytes, the longest instruction, at `pc`
and upward, every bit from `nbits` up being 0. It stands for the host's load of a program (R7, R254; log 5). A step
fetches only while Running, so the control state is made Running; in a Running state of a run that is no change. -/
def State.withFetchWord (s : State) (nbits w : Nat) : State :=
  let v := w % 2 ^ nbits
  s.makeRunning.storeAtPc
    [BitVec.ofNat 8 v, BitVec.ofNat 8 (v / 256), BitVec.ofNat 8 (v / 65536)]

end Sys2Proof.Machine
end

