-- ==== Sys2Proof/Machine/Parameter.lean ====
section
/-! DEFINITION. The model with the open parameter of R11, DECIMAL_POLICY, as its argument: an instruction, a step and a
machine under a policy. `exec`, `step` and `core`, whose types the host fixes, are these at `Config.decimalPolicy`. The
reset state and the decoder do not depend on the parameter, which is not state (R37). -/

namespace Sys2Proof.Machine

open Sys2Proof

/-- An instruction under a policy. ADC and SBC depend on it; no other instruction does (R112). -/
def execUnder (policy : DecimalPolicy) (i : Instr) (s : State) : Result :=
  match i with
  | .adcImm b1 => execAdcImmUnder policy b1 s
  | .adcZp b1 => execAdcZpUnder policy b1 s
  | .adcZpX b1 => execAdcZpXUnder policy b1 s
  | .adcAbs b1 b2 => execAdcAbsUnder policy b1 b2 s
  | .adcAbsX b1 b2 => execAdcAbsXUnder policy b1 b2 s
  | .adcAbsY b1 b2 => execAdcAbsYUnder policy b1 b2 s
  | .adcIndX b1 => execAdcIndXUnder policy b1 s
  | .adcIndY b1 => execAdcIndYUnder policy b1 s
  | .sbcImm b1 => execSbcImmUnder policy b1 s
  | .sbcZp b1 => execSbcZpUnder policy b1 s
  | .sbcZpX b1 => execSbcZpXUnder policy b1 s
  | .sbcAbs b1 b2 => execSbcAbsUnder policy b1 b2 s
  | .sbcAbsX b1 b2 => execSbcAbsXUnder policy b1 b2 s
  | .sbcAbsY b1 b2 => execSbcAbsYUnder policy b1 b2 s
  | .sbcIndX b1 => execSbcIndXUnder policy b1 s
  | .sbcIndY b1 => execSbcIndYUnder policy b1 s
  | .andImm _ | .andZp _ | .andZpX _ | .andAbs _ _ | .andAbsX _ _ | .andAbsY _ _ | .andIndX _ | .andIndY _
  | .oraImm _ | .oraZp _ | .oraZpX _ | .oraAbs _ _ | .oraAbsX _ _ | .oraAbsY _ _ | .oraIndX _ | .oraIndY _
  | .eorImm _ | .eorZp _ | .eorZpX _ | .eorAbs _ _ | .eorAbsX _ _ | .eorAbsY _ _ | .eorIndX _ | .eorIndY _
  | .bitZp _ | .bitAbs _ _ | .ldaImm _ | .ldaZp _ | .ldaZpX _ | .ldaAbs _ _ | .ldaAbsX _ _ | .ldaAbsY _ _
  | .ldaIndX _ | .ldaIndY _ | .ldxImm _ | .ldxZp _ | .ldxZpY _ | .ldxAbs _ _ | .ldxAbsY _ _ | .ldyImm _ | .ldyZp _
  | .ldyZpX _ | .ldyAbs _ _ | .ldyAbsX _ _ | .staZp _ | .staZpX _ | .staAbs _ _ | .staAbsX _ _ | .staAbsY _ _
  | .staIndX _ | .staIndY _ | .stxZp _ | .stxZpY _ | .stxAbs _ _ | .styZp _ | .styZpX _ | .styAbs _ _ | .tax | .tay
  | .txa | .tya | .tsx | .txs | .bcc _ | .bcs _ | .beq _ | .bne _ | .bmi _ | .bpl _ | .bvc _ | .bvs _ | .pha | .php
  | .pla | .plp | .clc | .sec | .cli | .sei | .cld | .sed | .clv | .jmpAbs _ _ | .jmpInd _ _ | .jsr _ _ | .rts
  | .rti | .cmpImm _ | .cmpZp _ | .cmpZpX _ | .cmpAbs _ _ | .cmpAbsX _ _ | .cmpAbsY _ _ | .cmpIndX _ | .cmpIndY _
  | .cpxImm _ | .cpxZp _ | .cpxAbs _ _ | .cpyImm _ | .cpyZp _ | .cpyAbs _ _ | .aslAcc | .aslZp _ | .aslZpX _
  | .aslAbs _ _ | .aslAbsX _ _ | .lsrAcc | .lsrZp _ | .lsrZpX _ | .lsrAbs _ _ | .lsrAbsX _ _ | .rolAcc | .rolZp _
  | .rolZpX _ | .rolAbs _ _ | .rolAbsX _ _ | .rorAcc | .rorZp _ | .rorZpX _ | .rorAbs _ _ | .rorAbsX _ _ | .incZp _
  | .incZpX _ | .incAbs _ _ | .incAbsX _ _ | .decZp _ | .decZpX _ | .decAbs _ _ | .decAbsX _ _ | .inx | .iny | .dex
  | .dey | .nop | .brk => exec i s

/-- `Step()` (R75) under a policy. -/
def stepUnder (policy : DecimalPolicy) (s : State) : Result := stepWith (execUnder policy) s

/-- The machine under a policy. -/
def coreUnder (policy : DecimalPolicy) : Host.Core :=
  { State := State, Fault := Fault, Refusal := Refusal, step := stepUnder policy, reset := State.reset }

end Sys2Proof.Machine
end

