-- ==== Sys2Proof/Machine/HostInterface.lean ====
section
/-! DEFINITION. What the host does to the unit between steps (00_scope.md section 5): reset, load, reading the result of a
step, inspection. Stepping itself is `step`. -/

namespace Sys2Proof.Machine

open Sys2Proof

/-- Reset at any time and in any run state gives the whole table of R40 (R41, R250). -/
def hostReset (_s : State) : State := State.reset

/-- The host writes one byte of memory: accepted in the Loading phase, with no other effect (R7, R67). Later writes are
outside the modelled interface (D9; log 10). -/
def hostLoad (adr : Addr) (v : Byte) (s : State) : Result :=
  match s.phase with
  | .loading => .next (s.write adr v)
  | .stepping => .refused .hostWriteAfterFirstStep

/-- The result the step that led to this state returned (R77, R37; log 2). -/
def State.result (s : State) : StepResult :=
  match s.haltCause with
  | .none => .continues
  | .brk => .halt
  | .illegal => .illegalOpcode

/-- Inspection of a memory byte: what a `MemRead` would return (R9, R67). -/
def State.inspectByte (s : State) (adr : Addr) : Byte := s.read adr

/-- Inspection of the packed status, `PackP(P.B)` (R9, R40, D8). -/
def State.inspectStatus (s : State) : Byte := packP s.p.b s.p

/-- The fault report, which means something only while `halt_cause = Illegal` (R34): the offending opcode and its
address. -/
def State.faultReport (s : State) : Option (Byte × Addr) :=
  match s.haltCause with
  | .illegal => some (s.faultOpcode, s.faultPc)
  | .none | .brk => none

end Sys2Proof.Machine
end

