-- ==== Sys2Proof/Safety.lean ====
section
/-! DEFINITION. What a good state and a safe run are, in the terms the claims use. -/

namespace Sys2Proof.Machine

open Sys2Proof

/-- What the spec says of every state a run can reach. -/
structure State.Inv (s : State) : Prop where
  /-- Memory is in its canonical form (log 6). -/
  memWf : s.mem.wf = true
  /-- The Unused bit is always 1 (R28). -/
  unusedSet : s.p.u = true
  /-- `run_state = Running` exactly when `halt_cause = None` (R34). -/
  runningIff : s.runState = .running ↔ s.haltCause = .none
  /-- Break is 0 until a BRK halts the unit, and 1 from then on (R30). -/
  breakIff : s.p.b = true ↔ s.haltCause = .brk
  /-- The fault report is written only by the illegal-opcode step (R34): until then it is as reset left it. -/
  noReport : s.haltCause ≠ .illegal → s.faultOpcode = 0x00 ∧ s.faultPc = 0x0000
  /-- After an illegal-opcode step, `pc` is on the reported byte, the byte is still in memory there, and it is an
  unassigned opcode (R222, R233). -/
  report : s.haltCause = .illegal →
    s.faultPc = s.pc ∧ s.read s.pc = s.faultOpcode ∧ dispatchRom s.faultOpcode = none
  /-- Before the first step the unit is Running (R35, R40). -/
  loadingRuns : s.phase = .loading → s.runState = .running

/-- The first `k` steps from `s` all lead to a next state, and none of them returns `IllegalOpcode` (R230, R240). -/
def SafeRun (k : Nat) (s : State) : Prop :=
  ∀ j, j ≤ k → ∃ t : State, core.run j s = .next t ∧ t.result ≠ .illegalOpcode

end Sys2Proof.Machine
end

