-- ==== Sys2Proof/Certificates/Slice0/Obligations.lean ====
section
/-! DEFINITION. The statements about the model, for the provers. Each docstring names the rules of spec/ it formalises.
The namespace Sys2Proof.Claims holds the vocabulary they share: the encodings as rows, and what "one byte
stored" means. -/

namespace Sys2Proof.Claims

open Sys2Proof Sys2Proof.Machine

/-! ## Vocabulary -/

/-- One encoding that an instruction's rule lists: the opcode byte, the addressing mode, and the constructor. -/
structure EncodingRow where
  opcode : Byte
  mode   : Mode
  instr  : Instr
  deriving DecidableEq, Repr

/-- The length in bytes that the mode gives: 1 + operand byte count (R72). -/
def EncodingRow.length (r : EncodingRow) : Nat := 1 + r.mode.operandBytes

/-- The operand descriptor the step binds to `opnd` (R75, R90). -/
def EncodingRow.operand (r : EncodingRow) (b1 b2 : Byte) (s : State) : Operand :=
  resolve r.mode b1 b2 (s.after r.length) s

/-- The encodings of ADC (R111). -/
def adcRows (b1 b2 : Byte) : List EncodingRow :=
  [⟨0x69, .immediate, .adcImm b1⟩, ⟨0x65, .zeroPage, .adcZp b1⟩, ⟨0x75, .zeroPageX, .adcZpX b1⟩,
   ⟨0x6D, .absolute, .adcAbs b1 b2⟩, ⟨0x7D, .absoluteX, .adcAbsX b1 b2⟩, ⟨0x79, .absoluteY, .adcAbsY b1 b2⟩,
   ⟨0x61, .indexedIndirect, .adcIndX b1⟩, ⟨0x71, .indirectIndexed, .adcIndY b1⟩]

/-- The encodings of SBC (R113). -/
def sbcRows (b1 b2 : Byte) : List EncodingRow :=
  [⟨0xE9, .immediate, .sbcImm b1⟩, ⟨0xE5, .zeroPage, .sbcZp b1⟩, ⟨0xF5, .zeroPageX, .sbcZpX b1⟩,
   ⟨0xED, .absolute, .sbcAbs b1 b2⟩, ⟨0xFD, .absoluteX, .sbcAbsX b1 b2⟩, ⟨0xF9, .absoluteY, .sbcAbsY b1 b2⟩,
   ⟨0xE1, .indexedIndirect, .sbcIndX b1⟩, ⟨0xF1, .indirectIndexed, .sbcIndY b1⟩]

/-- The encodings of AND (R120). -/
def andRows (b1 b2 : Byte) : List EncodingRow :=
  [⟨0x29, .immediate, .andImm b1⟩, ⟨0x25, .zeroPage, .andZp b1⟩, ⟨0x35, .zeroPageX, .andZpX b1⟩,
   ⟨0x2D, .absolute, .andAbs b1 b2⟩, ⟨0x3D, .absoluteX, .andAbsX b1 b2⟩, ⟨0x39, .absoluteY, .andAbsY b1 b2⟩,
   ⟨0x21, .indexedIndirect, .andIndX b1⟩, ⟨0x31, .indirectIndexed, .andIndY b1⟩]

/-- The encodings of ORA (R121). -/
def oraRows (b1 b2 : Byte) : List EncodingRow :=
  [⟨0x09, .immediate, .oraImm b1⟩, ⟨0x05, .zeroPage, .oraZp b1⟩, ⟨0x15, .zeroPageX, .oraZpX b1⟩,
   ⟨0x0D, .absolute, .oraAbs b1 b2⟩, ⟨0x1D, .absoluteX, .oraAbsX b1 b2⟩, ⟨0x19, .absoluteY, .oraAbsY b1 b2⟩,
   ⟨0x01, .indexedIndirect, .oraIndX b1⟩, ⟨0x11, .indirectIndexed, .oraIndY b1⟩]

/-- The encodings of EOR (R122). -/
def eorRows (b1 b2 : Byte) : List EncodingRow :=
  [⟨0x49, .immediate, .eorImm b1⟩, ⟨0x45, .zeroPage, .eorZp b1⟩, ⟨0x55, .zeroPageX, .eorZpX b1⟩,
   ⟨0x4D, .absolute, .eorAbs b1 b2⟩, ⟨0x5D, .absoluteX, .eorAbsX b1 b2⟩, ⟨0x59, .absoluteY, .eorAbsY b1 b2⟩,
   ⟨0x41, .indexedIndirect, .eorIndX b1⟩, ⟨0x51, .indirectIndexed, .eorIndY b1⟩]

/-- The encodings of BIT (R123). -/
def bitRows (b1 b2 : Byte) : List EncodingRow :=
  [⟨0x24, .zeroPage, .bitZp b1⟩, ⟨0x2C, .absolute, .bitAbs b1 b2⟩]

/-- The encodings of LDA (R131). -/
def ldaRows (b1 b2 : Byte) : List EncodingRow :=
  [⟨0xA9, .immediate, .ldaImm b1⟩, ⟨0xA5, .zeroPage, .ldaZp b1⟩, ⟨0xB5, .zeroPageX, .ldaZpX b1⟩,
   ⟨0xAD, .absolute, .ldaAbs b1 b2⟩, ⟨0xBD, .absoluteX, .ldaAbsX b1 b2⟩, ⟨0xB9, .absoluteY, .ldaAbsY b1 b2⟩,
   ⟨0xA1, .indexedIndirect, .ldaIndX b1⟩, ⟨0xB1, .indirectIndexed, .ldaIndY b1⟩]

/-- The encodings of LDX (R132). -/
def ldxRows (b1 b2 : Byte) : List EncodingRow :=
  [⟨0xA2, .immediate, .ldxImm b1⟩, ⟨0xA6, .zeroPage, .ldxZp b1⟩, ⟨0xB6, .zeroPageY, .ldxZpY b1⟩,
   ⟨0xAE, .absolute, .ldxAbs b1 b2⟩, ⟨0xBE, .absoluteY, .ldxAbsY b1 b2⟩]

/-- The encodings of LDY (R133). -/
def ldyRows (b1 b2 : Byte) : List EncodingRow :=
  [⟨0xA0, .immediate, .ldyImm b1⟩, ⟨0xA4, .zeroPage, .ldyZp b1⟩, ⟨0xB4, .zeroPageX, .ldyZpX b1⟩,
   ⟨0xAC, .absolute, .ldyAbs b1 b2⟩, ⟨0xBC, .absoluteX, .ldyAbsX b1 b2⟩]

/-- The encodings of STA (R134). -/
def staRows (b1 b2 : Byte) : List EncodingRow :=
  [⟨0x85, .zeroPage, .staZp b1⟩, ⟨0x95, .zeroPageX, .staZpX b1⟩, ⟨0x8D, .absolute, .staAbs b1 b2⟩,
   ⟨0x9D, .absoluteX, .staAbsX b1 b2⟩, ⟨0x99, .absoluteY, .staAbsY b1 b2⟩,
   ⟨0x81, .indexedIndirect, .staIndX b1⟩, ⟨0x91, .indirectIndexed, .staIndY b1⟩]

/-- The encodings of STX (R135). -/
def stxRows (b1 b2 : Byte) : List EncodingRow :=
  [⟨0x86, .zeroPage, .stxZp b1⟩, ⟨0x96, .zeroPageY, .stxZpY b1⟩, ⟨0x8E, .absolute, .stxAbs b1 b2⟩]

/-- The encodings of STY (R136). -/
def styRows (b1 b2 : Byte) : List EncodingRow :=
  [⟨0x84, .zeroPage, .styZp b1⟩, ⟨0x94, .zeroPageX, .styZpX b1⟩, ⟨0x8C, .absolute, .styAbs b1 b2⟩]

/-- The encodings of CMP (R196). -/
def cmpRows (b1 b2 : Byte) : List EncodingRow :=
  [⟨0xC9, .immediate, .cmpImm b1⟩, ⟨0xC5, .zeroPage, .cmpZp b1⟩, ⟨0xD5, .zeroPageX, .cmpZpX b1⟩,
   ⟨0xCD, .absolute, .cmpAbs b1 b2⟩, ⟨0xDD, .absoluteX, .cmpAbsX b1 b2⟩, ⟨0xD9, .absoluteY, .cmpAbsY b1 b2⟩,
   ⟨0xC1, .indexedIndirect, .cmpIndX b1⟩, ⟨0xD1, .indirectIndexed, .cmpIndY b1⟩]

/-- The encodings of CPX (R197). -/
def cpxRows (b1 b2 : Byte) : List EncodingRow :=
  [⟨0xE0, .immediate, .cpxImm b1⟩, ⟨0xE4, .zeroPage, .cpxZp b1⟩, ⟨0xEC, .absolute, .cpxAbs b1 b2⟩]

/-- The encodings of CPY (R198). -/
def cpyRows (b1 b2 : Byte) : List EncodingRow :=
  [⟨0xC0, .immediate, .cpyImm b1⟩, ⟨0xC4, .zeroPage, .cpyZp b1⟩, ⟨0xCC, .absolute, .cpyAbs b1 b2⟩]

/-- The encodings of ASL (R201). -/
def aslRows (b1 b2 : Byte) : List EncodingRow :=
  [⟨0x0A, .accumulator, .aslAcc⟩, ⟨0x06, .zeroPage, .aslZp b1⟩, ⟨0x16, .zeroPageX, .aslZpX b1⟩,
   ⟨0x0E, .absolute, .aslAbs b1 b2⟩, ⟨0x1E, .absoluteX, .aslAbsX b1 b2⟩]

/-- The encodings of LSR (R202). -/
def lsrRows (b1 b2 : Byte) : List EncodingRow :=
  [⟨0x4A, .accumulator, .lsrAcc⟩, ⟨0x46, .zeroPage, .lsrZp b1⟩, ⟨0x56, .zeroPageX, .lsrZpX b1⟩,
   ⟨0x4E, .absolute, .lsrAbs b1 b2⟩, ⟨0x5E, .absoluteX, .lsrAbsX b1 b2⟩]

/-- The encodings of ROL (R203). -/
def rolRows (b1 b2 : Byte) : List EncodingRow :=
  [⟨0x2A, .accumulator, .rolAcc⟩, ⟨0x26, .zeroPage, .rolZp b1⟩, ⟨0x36, .zeroPageX, .rolZpX b1⟩,
   ⟨0x2E, .absolute, .rolAbs b1 b2⟩, ⟨0x3E, .absoluteX, .rolAbsX b1 b2⟩]

/-- The encodings of ROR (R204). -/
def rorRows (b1 b2 : Byte) : List EncodingRow :=
  [⟨0x6A, .accumulator, .rorAcc⟩, ⟨0x66, .zeroPage, .rorZp b1⟩, ⟨0x76, .zeroPageX, .rorZpX b1⟩,
   ⟨0x6E, .absolute, .rorAbs b1 b2⟩, ⟨0x7E, .absoluteX, .rorAbsX b1 b2⟩]

/-- The encodings of INC (R205). -/
def incRows (b1 b2 : Byte) : List EncodingRow :=
  [⟨0xE6, .zeroPage, .incZp b1⟩, ⟨0xF6, .zeroPageX, .incZpX b1⟩, ⟨0xEE, .absolute, .incAbs b1 b2⟩,
   ⟨0xFE, .absoluteX, .incAbsX b1 b2⟩]

/-- The encodings of DEC (R206). -/
def decRows (b1 b2 : Byte) : List EncodingRow :=
  [⟨0xC6, .zeroPage, .decZp b1⟩, ⟨0xD6, .zeroPageX, .decZpX b1⟩, ⟨0xCE, .absolute, .decAbs b1 b2⟩,
   ⟨0xDE, .absoluteX, .decAbsX b1 b2⟩]

/-- The 105 unassigned opcode values (R80). -/
def illegalBytes : List Byte :=
  [0x02, 0x03, 0x04, 0x07, 0x0B, 0x0C, 0x0F, 0x12, 0x13, 0x14, 0x17, 0x1A, 0x1B, 0x1C, 0x1F, 0x22, 0x23,
   0x27, 0x2B, 0x2F, 0x32, 0x33, 0x34, 0x37, 0x3A, 0x3B, 0x3C, 0x3F, 0x42, 0x43, 0x44, 0x47, 0x4B, 0x4F,
   0x52, 0x53, 0x54, 0x57, 0x5A, 0x5B, 0x5C, 0x5F, 0x62, 0x63, 0x64, 0x67, 0x6B, 0x6F, 0x72, 0x73, 0x74,
   0x77, 0x7A, 0x7B, 0x7C, 0x7F, 0x80, 0x82, 0x83, 0x87, 0x89, 0x8B, 0x8F, 0x92, 0x93, 0x97, 0x9B, 0x9C,
   0x9E, 0x9F, 0xA3, 0xA7, 0xAB, 0xAF, 0xB2, 0xB3, 0xB7, 0xBB, 0xBF, 0xC2, 0xC3, 0xC7, 0xCB, 0xCF, 0xD2,
   0xD3, 0xD4, 0xD7, 0xDA, 0xDB, 0xDC, 0xDF, 0xE2, 0xE3, 0xE7, 0xEB, 0xEF, 0xF2, 0xF3, 0xF4, 0xF7, 0xFA,
   0xFB, 0xFC, 0xFF]

/-- The unassigned values whose low two bits are not 11 (R80's second list). -/
def illegalBytesOtherwise : List Byte :=
  [0x02, 0x12, 0x22, 0x32, 0x42, 0x52, 0x62, 0x72, 0x82, 0x92, 0xB2, 0xC2, 0xD2, 0xE2, 0xF2, 0x04, 0x0C,
   0x14, 0x1A, 0x1C, 0x34, 0x3A, 0x3C, 0x44, 0x54, 0x5A, 0x5C, 0x64, 0x74, 0x7A, 0x7C, 0x80, 0x89, 0x9C,
   0x9E, 0xD4, 0xDA, 0xDC, 0xF4, 0xFA, 0xFC]

/-- The flags after `SetNZ(r)` (R31). -/
def flagsNZ (p : Status) (r : Byte) : Status := { p with z := decide (r = 0), n := r.msb }

/-- Seen by reading, `t` has `v` at `ea` and every other byte as in `s`; memory keeps its canonical form. -/
def OneByteStored (s t : State) (ea : Addr) (v : Byte) : Prop :=
  t.read ea = v ∧ (∀ other, other ≠ ea → t.read other = s.read other) ∧ t.mem.wf = true

/-- The address of the stack byte for a stack pointer: `0x0100 + SP` (R62). -/
def stackByte (sp : Byte) : Addr := 0x0100 + sp.setWidth 16

/-- A change of the next state, if there is one. -/
def mapNext (f : State → State) : Result → Result
  | .next t => .next (f t)
  | .fault r => .fault r
  | .refused r => .refused r

/-- `n` times one operation, each on the next state of the one before. -/
def repeatOp (op : State → Result) : Nat → State → Result
  | 0, s => .next s
  | n + 1, s =>
    match op s with
    | .next t => repeatOp op n t
    | .fault r => .fault r
    | .refused r => .refused r

/-- What a read-modify-write instruction does (R200): `m` is loaded from the operand, `result m C` is stored to the same
operand and sets Zero and Negative, Carry becomes `carry m C`, and everything else is unchanged. In Accumulator mode no
memory is touched; in a memory mode the one byte at the effective address is stored. -/
def ReadModifyWrite (rows : Byte → Byte → List EncodingRow) (result : Byte → Bool → Byte)
    (carry : Byte → Bool → Bool) : Prop :=
  ∀ (s : State) (b1 b2 : Byte), s.mem.wf = true → ∀ row ∈ rows b1 b2,
    decode row.opcode b1 b2 = .ok row.instr ∧
    ∃ m t, (row.operand b1 b2 s).load s = some m ∧ exec row.instr s = .next t ∧
      t = { s with
            a := if row.operand b1 b2 s = .acc then result m s.p.c else s.a
            mem := t.mem
            p := { flagsNZ s.p (result m s.p.c) with c := carry m s.p.c }
            pc := s.after row.length } ∧
      (row.operand b1 b2 s = .acc ∧ t.mem = s.mem ∨
        ∃ ea, row.operand b1 b2 s = .addr ea ∧ OneByteStored s t ea (result m s.p.c))

/-- The addresses an instruction stores to: the effective address of a store or of a memory read-modify-write, the stack
byte of a push, the two stack bytes of JSR; none for any other. -/
def storedAddresses (i : Instr) (s : State) : List Addr :=
  match i.mnemonic with
  | .sta | .stx | .sty | .asl | .lsr | .rol | .ror | .inc | .dec =>
    match resolve i.mode i.form.b1 i.form.b2 (s.after i.length) s with
    | .addr ea => [ea]
    | .implied | .acc | .imm _ => []
  | .pha | .php => [stackByte s.sp]
  | .jsr => [stackByte s.sp, stackByte (s.sp - 1)]
  | _ => []

/-- The mnemonics that set the program counter themselves (R26). -/
def setsPc : List Mnemonic :=
  [.bcc, .bcs, .beq, .bne, .bmi, .bpl, .bvc, .bvs, .jmp, .jsr, .rts, .rti]

end Sys2Proof.Claims

open Sys2Proof Sys2Proof.Machine Sys2Proof.Claims

/-! ## Reset and the invariant -/

/-- R40, with R41 and R250: what reset leaves, whatever the state before it. The values of the fault report and of the
phase are the spec's own decisions D11 and D9. The last clause is R40's remark on the first push after reset. -/
def Obligations.ResetLeavesTheTableOfValues : Prop :=
  ∀ before : State,
    let s := hostReset before
    s = State.reset ∧
    s.pc = 0x0000 ∧ s.sp = 0x00 ∧ s.a = 0x00 ∧ s.x = 0x00 ∧ s.y = 0x00 ∧
    s.p = { c := false, z := false, i := false, d := false, b := false, u := true, v := false, n := false } ∧
    (∀ adr, s.read adr = 0x00) ∧
    s.runState = .running ∧ s.haltCause = .none ∧
    s.faultOpcode = 0x00 ∧ s.faultPc = 0x0000 ∧ s.phase = .loading ∧
    packP false s.p = 0x20 ∧
    ∀ v, (s.push v).read 0x0100 = v ∧ (s.push v).sp = 0xFF

/-- The reset state meets the invariant. -/
def Obligations.ResetMeetsTheInvariant : Prop := State.reset.Inv

/-- A headline: from ANY state that meets the invariant, every step leads to a state that meets it. -/
def Obligations.EveryStepKeepsTheInvariant : Prop :=
  ∀ s t : State, s.Inv → step s = .next t → t.Inv

/-- R28: no instruction and no step alters the Unused bit, so it stays 1. For ADC and SBC with `P.D = 1` that there is a
next state rests on the model's choice of DECIMAL_POLICY (log 3). -/
def Obligations.UnusedBitIsNeverAltered : Prop :=
  (∀ (i : Instr) (s : State), ∃ t, exec i s = .next t ∧ t.p.u = s.p.u) ∧
  (∀ s : State, s.p.u = true → ∃ t, step s = .next t ∧ t.p.u = true) ∧
  State.reset.p.u = true

/-! ## The step -/

/-- Every step leads to a next state and leaves the unit in the Stepping phase: no step stops with a fault or a refusal.
For ADC and SBC with `P.D = 1` this rests on the model's choice of DECIMAL_POLICY (log 3). -/
def Obligations.EveryStepCompletes : Prop :=
  ∀ s : State, ∃ t, step s = .next t ∧ t.phase = .stepping

/-- When the bytes at `pc` decode to an instruction and the unit is Running, the step is that instruction executed at that
state, with the phase set first (R75). `pc` is still the address of the opcode byte: the instruction sets it. -/
def Obligations.StepRunsTheDecodedInstruction : Prop :=
  ∀ (s : State) (i : Instr) (rest : List Byte), s.runState = .running →
    decodeBytes (s.bytesAtPc 3) = .ok (i, rest) → step s = exec i { s with phase := .stepping }

/-- R222 with R80 (what the exception writes is the spec's own decision D11; log 1 on taking it): when the byte at `pc`
is one of the 105 unassigned values, the step writes the fault report, halts the unit and changes nothing else (but the
phase, R75), its result is `IllegalOpcode`, and every further step changes nothing and returns the same. -/
def Obligations.UnassignedByteTakesTheIllegalOpcodeStep : Prop :=
  ∀ (s : State), s.runState = .running → s.read s.pc ∈ illegalBytes →
    let t := { s with
      faultOpcode := s.read s.pc, faultPc := s.pc, runState := .halted, haltCause := .illegal
      phase := .stepping }
    step s = .next t ∧ t.result = .illegalOpcode ∧
    t.faultReport = some (s.read s.pc, s.pc) ∧ step t = .next t

/-- R80 (the opcode map is the spec's own decision D1): the unassigned values are exactly the 105 listed, in both of the
rule's lists, and the decoder rejects exactly them, whatever bytes follow. -/
def Obligations.UnassignedOpcodesAreThe105Listed : Prop :=
  illegalBytes.length = 105 ∧ illegalBytes.Nodup ∧
  ∀ op b1 b2 : Byte,
    (op ∈ illegalBytes ↔ op &&& 0x03 = 0x03 ∨ op ∈ illegalBytesOtherwise) ∧
    (op ∈ illegalBytes ↔ decode op b1 b2 = .error (.unassigned op)) ∧
    (op ∉ illegalBytes ↔ ∃ i, decode op b1 b2 = .ok i)

/-- R76 (the spec's own decision D3): a step taken while Halted changes no state other than the phase and returns the
result of the step that halted the unit. So a halted unit stays as it is for any number of steps. -/
def Obligations.HaltedUnitNeverChanges : Prop :=
  ∀ (s : State), s.runState = .halted →
    step s = .next { s with phase := .stepping } ∧
    ({ s with phase := .stepping } : State).result = s.result ∧
    (s.phase = .stepping → ∀ k, core.run k s = .next s)

/-- R77: the three results, for a state whose control state is consistent (R34): which one a step returns, and that the
unit is Running afterwards exactly when it is `Continue`. `0x00` is BRK's opcode byte (R221). For ADC and SBC with `P.D
= 1`, that there is a next state and that its result is `Continue` rests on the model's choice of DECIMAL_POLICY (log
3). -/
def Obligations.StepReturnsOneOfThreeResults : Prop :=
  ∀ s : State, (s.runState = .running ↔ s.haltCause = .none) →
    ∃ t, step s = .next t ∧
      (t.result = .continues ↔
        s.runState = .running ∧ s.read s.pc ∉ illegalBytes ∧ s.read s.pc ≠ 0x00) ∧
      (t.result = .halt ↔
        s.runState = .running ∧ s.read s.pc = 0x00 ∨ s.runState = .halted ∧ s.haltCause = .brk) ∧
      (t.result = .illegalOpcode ↔
        s.runState = .running ∧ s.read s.pc ∈ illegalBytes ∨
        s.runState = .halted ∧ s.haltCause = .illegal) ∧
      (t.runState = .running ↔ t.result = .continues)

/-- R230, with R222 and R76: over any number of steps from a Running state that meets the invariant, `IllegalOpcode` is
returned if and only if some step of the run finds the unit Running and fetches one of the 105 unassigned values. So the
exception has no other cause, and none of those fetches goes unnoticed. `SafeRun` asks that every step completes: for
ADC and SBC with `P.D = 1` that rests on the model's choice of DECIMAL_POLICY (log 3). -/
def Obligations.RunIsSafeUnlessAnUnassignedByteIsFetched : Prop :=
  ∀ (s : State) (k : Nat), s.Inv → s.runState = .running →
    (¬ SafeRun k s ↔
      ∃ j t, j < k ∧ core.run j s = .next t ∧ t.runState = .running ∧ t.read t.pc ∈ illegalBytes)

/-! ## Encoding -/

/-- A headline: decoding the front of any bytes gives an instruction exactly when those bytes begin with the encoding of
that instruction, and it leaves the rest. So every instruction of every family is read back from its encoding with every
operand byte, two instructions never share an encoding, and nothing else decodes. -/
def Obligations.DecodeIsTheInverseOfEncode : Prop :=
  ∀ (bytes rest : List Byte) (i : Instr),
    decodeBytes bytes = .ok (i, rest) ↔ bytes = encode i ++ rest

/-- Words written out from the spec's encodings decode to the instructions they stand for, one or more for each family and
each addressing mode (R84's examples among them). -/
def Obligations.SpecWordsDecodeToTheirInstructions : Prop :=
  decode 0x18 0x00 0x00 = .ok .clc ∧ decode 0x0A 0x00 0x00 = .ok .aslAcc ∧
  decode 0x69 0x10 0x00 = .ok (.adcImm 0x10) ∧ decode 0xA5 0x10 0x00 = .ok (.ldaZp 0x10) ∧
  decode 0xB5 0x10 0x00 = .ok (.ldaZpX 0x10) ∧ decode 0xB6 0x10 0x00 = .ok (.ldxZpY 0x10) ∧
  decode 0xD0 0xF8 0x00 = .ok (.bne 0xF8) ∧ decode 0x4C 0x34 0x12 = .ok (.jmpAbs 0x34 0x12) ∧
  decode 0xBD 0x34 0x12 = .ok (.ldaAbsX 0x34 0x12) ∧ decode 0xB9 0x34 0x12 = .ok (.ldaAbsY 0x34 0x12) ∧
  decode 0x6C 0xFF 0x02 = .ok (.jmpInd 0xFF 0x02) ∧ decode 0xA1 0x10 0x00 = .ok (.ldaIndX 0x10) ∧
  decode 0xB1 0x10 0x00 = .ok (.ldaIndY 0x10) ∧ decode 0x29 0x3C 0x00 = .ok (.andImm 0x3C) ∧
  decode 0x24 0x10 0x00 = .ok (.bitZp 0x10) ∧ decode 0x8D 0x00 0x02 = .ok (.staAbs 0x00 0x02) ∧
  decode 0x48 0x00 0x00 = .ok .pha ∧ decode 0x20 0x00 0x06 = .ok (.jsr 0x00 0x06) ∧
  decode 0xC9 0x41 0x00 = .ok (.cmpImm 0x41) ∧ decode 0xCE 0x00 0x02 = .ok (.decAbs 0x00 0x02) ∧
  decode 0xEA 0x00 0x00 = .ok .nop ∧ decode 0x00 0x00 0x00 = .ok .brk

/-- The dispatch record of an opcode byte (R72, R73, R82): for every byte that decodes, it is the instruction's own record
whatever the operand bytes are, its operand byte count is its mode's, the encoding has 1 + that many bytes and begins with
the opcode byte, and the instruction passes the checks of WellFormed.lean. -/
def Obligations.DispatchRecordFixesModeAndLength : Prop :=
  ∀ (op b1 b2 : Byte) (i : Instr), decode op b1 b2 = .ok i →
    dispatchRom op = some i.record ∧ i.record.operandBytes = i.mode.operandBytes ∧
    (encode i).length = 1 + i.mode.operandBytes ∧ (encode i).head? = some op ∧ i.wellFormed = true

/-- R79: a form is an instruction of the unit exactly when R79 has a cell for its mnemonic in its mode (and it holds no
byte that the mode does not have). -/
def Obligations.WellFormedFormsAreTheInstructions : Prop :=
  ∀ f : Form, f.wellFormed = true ↔ ∃ i : Instr, i.form = f

/-- Loading the encoding of any instruction at `pc`, wherever `pc` is, makes the next step of a Running unit run it. The
decoder, the encoder, memory and the fetch agree through the wrap at the top of memory. -/
def Obligations.LoadedInstructionIsTheOneRun : Prop :=
  ∀ (s : State) (i : Instr), s.mem.wf = true → s.runState = .running →
    let t := s.storeAtPc (encode i)
    step t = exec i { t with phase := .stepping } ∧ t.pc = s.pc ∧ t.p = s.p

/-- The host's placing of an instruction's bits is right: if the bits decode to an instruction, the next step runs it. -/
def Obligations.FetchWordIsTheOneRun : Prop :=
  ∀ (s : State) (nbits w : Nat) (i : Instr), s.mem.wf = true → decodeTableWord nbits w = some i →
    step (s.withFetchWord nbits w) = exec i { s.withFetchWord nbits w with phase := .stepping }

/-! ## Memory, the stack and the host -/

/-- Two memories in canonical form that read alike at all 65536 addresses are the same data, so a state is determined by
what can be read of it. -/
def Obligations.CanonicalMemoryIsUnique : Prop :=
  ∀ m m' : Memory, m.wf = true → m'.wf = true →
    (∀ adr : Addr, Memory.read m adr.toNat = Memory.read m' adr.toNat) → m = m'

/-- R62 to R64 (the page and the direction are the spec's own decision D5): where a push goes and what it moves, what a
pull reads and moves, that the stack stays in its page, and that a pull right after a push returns the byte and restores
`SP`. No flag is written. -/
def Obligations.PushAndPullKeepTheStackDiscipline : Prop :=
  ∀ (s : State) (v : Byte), s.mem.wf = true →
    0x0100 ≤ (stackByte s.sp).toNat ∧ (stackByte s.sp).toNat ≤ 0x01FF ∧
    OneByteStored s (s.push v) (stackByte s.sp) v ∧
    s.push v = { s with mem := (s.push v).mem, sp := s.sp - 1 } ∧
    s.pulled = s.read (stackByte (s.sp + 1)) ∧ s.pull = { s with sp := s.sp + 1 } ∧
    (s.push v).pulled = v ∧ (s.push v).pull.sp = s.sp

/-- The host's load (R7, R67, R35; the phase is the spec's own decision D9): in the Loading phase it stores one byte at
any address and does nothing else, and the reset state is in that phase. After the first step the model refuses it by
name (the model's choice, log 10). -/
def Obligations.HostLoadsInTheLoadingPhaseOnly : Prop :=
  State.reset.phase = .loading ∧
  ∀ (s : State) (adr : Addr) (v : Byte), s.mem.wf = true →
    (s.phase = .loading → ∃ t, hostLoad adr v s = .next t ∧ OneByteStored s t adr v ∧
      t = { s with mem := t.mem } ∧ t.inspectByte adr = v) ∧
    (s.phase = .stepping → hostLoad adr v s = .refused .hostWriteAfterFirstStep)

/-- R61 (which the spec derives from R51, R58 and R59): after a store by STA, in any mode, the very next fetch sees the
stored byte wherever the stored address is one of the three it reads, as opcode or as operand byte, and the old byte
elsewhere. -/
def Obligations.NextFetchSeesTheStoredByte : Prop :=
  ∀ (s : State) (b1 b2 : Byte), s.mem.wf = true → ∀ row ∈ staRows b1 b2,
    ∃ t ea, row.operand b1 b2 s = .addr ea ∧ exec row.instr s = .next t ∧
      let byte (k : Nat) := if t.after k = ea then s.a else s.read (t.after k)
      t.fetchDecode = decode (byte 0) (byte 1) (byte 2)

/-! ## The resolver -/

/-- R91 to R100 but the pointer modes: what the resolver gives, as numbers. Sums wrap modulo 256 in the zero page and
modulo 65536 elsewhere; the Relative offset is signed. -/
def Obligations.DirectModesGiveTheirAddresses : Prop :=
  ∀ (b1 b2 : Byte) (next : Addr) (s : State),
    resolve .implied b1 b2 next s = .implied ∧
    resolve .accumulator b1 b2 next s = .acc ∧
    resolve .immediate b1 b2 next s = .imm b1 ∧
    resolve .zeroPage b1 b2 next s = .addr (BitVec.ofNat 16 b1.toNat) ∧
    resolve .zeroPageX b1 b2 next s = .addr (BitVec.ofNat 16 ((b1.toNat + s.x.toNat) % 256)) ∧
    resolve .zeroPageY b1 b2 next s = .addr (BitVec.ofNat 16 ((b1.toNat + s.y.toNat) % 256)) ∧
    resolve .relative b1 b2 next s = .addr (BitVec.ofInt 16 (next.toNat + b1.toInt)) ∧
    resolve .absolute b1 b2 next s = .addr (BitVec.ofNat 16 (b2.toNat * 256 + b1.toNat)) ∧
    resolve .absoluteX b1 b2 next s = .addr (BitVec.ofNat 16 (b2.toNat * 256 + b1.toNat + s.x.toNat)) ∧
    resolve .absoluteY b1 b2 next s = .addr (BitVec.ofNat 16 (b2.toNat * 256 + b1.toNat + s.y.toNat))

/-- R101 to R103: the three pointer modes, as numbers. The high byte of an Indirect pointer comes from the same page; both
bytes of a zero-page pointer come from the zero page (the spec's own decision D7); `Y` is added with full carry. -/
def Obligations.PointerModesWrapInsideTheirPage : Prop :=
  ∀ (b1 b2 : Byte) (next : Addr) (s : State),
    let byteAt (n : Nat) : Nat := (s.read (BitVec.ofNat 16 n)).toNat
    let z := (b1.toNat + s.x.toNat) % 256
    resolve .indirect b1 b2 next s =
      .addr (BitVec.ofNat 16 (byteAt (b2.toNat * 256 + (b1.toNat + 1) % 256) * 256 +
        byteAt (b2.toNat * 256 + b1.toNat))) ∧
    resolve .indexedIndirect b1 b2 next s =
      .addr (BitVec.ofNat 16 (byteAt ((z + 1) % 256) * 256 + byteAt z)) ∧
    resolve .indirectIndexed b1 b2 next s =
      .addr (BitVec.ofNat 16 (byteAt ((b1.toNat + 1) % 256) * 256 + byteAt b1.toNat + s.y.toNat))

/-! ## Arithmetic -/

/-- R110 and R115: the adder's result and outputs, and the sign table of the overflow output. The laws as unsigned and
signed arithmetic, for addition and, on the one's complement, for subtraction, are R114's, which the spec marks as its
own inference ("derived: from rule R110 by case analysis"). -/
def Obligations.AdderCarryAndOverflowLaws : Prop :=
  ∀ (a m : Byte) (c : Bool),
    let o := addCore a m c
    let sum : Nat := a.toNat + m.toNat + c.toNat
    let signedSum : Int := a.toInt + m.toInt + c.toNat
    let o' := addCore a (~~~m) c
    let borrow : Nat := 1 - c.toNat
    let signedDiff : Int := a.toInt - m.toInt - borrow
    o.r.toNat = sum % 256 ∧ (o.cout = true ↔ 256 ≤ sum) ∧
    (o.v = true ↔ signedSum < -128 ∨ 127 < signedSum) ∧
    (o.v = true ↔ a.msb = m.msb ∧ o.r.msb ≠ a.msb) ∧
    o'.r.toNat = (a.toNat + 256 - m.toNat - borrow) % 256 ∧
    (o'.cout = true ↔ m.toNat + borrow ≤ a.toNat) ∧
    (o'.v = true ↔ signedDiff < -128 ∨ 127 < signedDiff)

/-- R111: ADC in all its encodings. The disjunction says when the spec gives ADC this meaning (R112): always under the
default policy, and under `refuse` while `P.D = 0`. -/
def Obligations.AdcAddsWithCarry : Prop :=
  ∀ (s : State) (b1 b2 : Byte), Config.decimalPolicy = .binary ∨ s.p.d = false →
    ∀ row ∈ adcRows b1 b2,
      decode row.opcode b1 b2 = .ok row.instr ∧
      ∃ m, (row.operand b1 b2 s).load s = some m ∧
        let sum := s.a.toNat + m.toNat + s.p.c.toNat
        let r : Byte := BitVec.ofNat 8 sum
        exec row.instr s = .next { s with
          a := r
          p := { flagsNZ s.p r with c := decide (256 ≤ sum), v := s.a.msb == m.msb && r.msb != s.a.msb }
          pc := s.after row.length }

/-- R113 (the formula is the spec's own decision D17): SBC in all its encodings. Carry is an inverted borrow, in and
out. The disjunction is as for ADC. -/
def Obligations.SbcSubtractsWithBorrow : Prop :=
  ∀ (s : State) (b1 b2 : Byte), Config.decimalPolicy = .binary ∨ s.p.d = false →
    ∀ row ∈ sbcRows b1 b2,
      decode row.opcode b1 b2 = .ok row.instr ∧
      ∃ m, (row.operand b1 b2 s).load s = some m ∧
        let borrow := 1 - s.p.c.toNat
        let r : Byte := s.a - m - BitVec.ofNat 8 borrow
        exec row.instr s = .next { s with
          a := r
          p := { flagsNZ s.p r with
                 c := decide (m.toNat + borrow ≤ s.a.toNat)
                 v := s.a.msb != m.msb && r.msb != s.a.msb }
          pc := s.after row.length }

/-- R112: what the two policies say of ADC and SBC on any operand byte: under `refuse` there is no meaning while `P.D =
1` and all else is the same; under `binary` `P.D` makes no difference and is carried through. -/
def Obligations.DecimalPoliciesDifferOnlyInDecimalMode : Prop :=
  ∀ (m : Byte) (len : Nat) (s : State),
    (s.p.d = true → adc .refuse m len s = .refused .decimalMode ∧ sbc .refuse m len s = .refused .decimalMode) ∧
    (s.p.d = false → adc .refuse m len s = adc .binary m len s ∧ sbc .refuse m len s = sbc .binary m len s) ∧
    (∀ v, adc .binary m len (s.setD v) = mapNext (State.setD v) (adc .binary m len s) ∧
      sbc .binary m len (s.setD v) = mapNext (State.setD v) (sbc .binary m len s))

/-- The model's choice (log 3): the open parameter is `binary`, so ADC and SBC complete in every state. -/
def Obligations.AddAndSubtractCompleteInEveryState : Prop :=
  Config.decimalPolicy = .binary ∧
  ∀ (s : State) (b1 b2 : Byte), ∀ row ∈ adcRows b1 b2 ++ sbcRows b1 b2,
    ∃ t, exec row.instr s = .next t ∧ t = { s with a := t.a, p := t.p, pc := s.after row.length } ∧
      t.p.i = s.p.i ∧ t.p.d = s.p.d ∧ t.p.b = s.p.b ∧ t.p.u = s.p.u

/-! ## Logic, loads, stores, transfers -/

/-- R120 to R122: AND, ORA and EOR in all their encodings. -/
def Obligations.LogicalInstructionsCombineIntoA : Prop :=
  ∀ (s : State) (b1 b2 : Byte),
    let claim (rows : List EncodingRow) (f : Byte → Byte → Byte) : Prop :=
      ∀ row ∈ rows, decode row.opcode b1 b2 = .ok row.instr ∧
        ∃ m, (row.operand b1 b2 s).load s = some m ∧
          exec row.instr s = .next { s with
            a := f s.a m, p := flagsNZ s.p (f s.a m), pc := s.after row.length }
    claim (andRows b1 b2) (fun a m => a &&& m) ∧ claim (oraRows b1 b2) (fun a m => a ||| m) ∧
    claim (eorRows b1 b2) (fun a m => a ^^^ m)

/-- R123 (its Negative and Overflow: the spec's own decision D21): BIT in both its encodings. -/
def Obligations.BitTestsWithoutWriting : Prop :=
  ∀ (s : State) (b1 b2 : Byte), ∀ row ∈ bitRows b1 b2,
    decode row.opcode b1 b2 = .ok row.instr ∧
    ∃ m, (row.operand b1 b2 s).load s = some m ∧
      exec row.instr s = .next { s with
        p := { s.p with z := decide (s.a &&& m = 0), n := m.getLsbD 7, v := m.getLsbD 6 }
        pc := s.after row.length }

/-- R131 to R133: LDA, LDX and LDY in all their encodings. -/
def Obligations.LoadsWriteTheirRegister : Prop :=
  ∀ (s : State) (b1 b2 : Byte),
    let claim (rows : List EncodingRow) (after : Byte → State) : Prop :=
      ∀ row ∈ rows, decode row.opcode b1 b2 = .ok row.instr ∧
        ∃ m, (row.operand b1 b2 s).load s = some m ∧
          exec row.instr s = .next { after m with p := flagsNZ s.p m, pc := s.after row.length }
    claim (ldaRows b1 b2) (fun m => { s with a := m }) ∧
    claim (ldxRows b1 b2) (fun m => { s with x := m }) ∧
    claim (ldyRows b1 b2) (fun m => { s with y := m })

/-- R134 to R136: STA, STX and STY in all their encodings store one byte at the effective address and change nothing
else but `pc`. -/
def Obligations.StoresWriteOneByte : Prop :=
  ∀ (s : State) (b1 b2 : Byte), s.mem.wf = true →
    let claim (rows : List EncodingRow) (v : Byte) : Prop :=
      ∀ row ∈ rows, decode row.opcode b1 b2 = .ok row.instr ∧
        ∃ ea t, row.operand b1 b2 s = .addr ea ∧ exec row.instr s = .next t ∧
          OneByteStored s t ea v ∧ t = { s with mem := t.mem, pc := s.after row.length }
    claim (staRows b1 b2) s.a ∧ claim (stxRows b1 b2) s.x ∧ claim (styRows b1 b2) s.y

/-- R137 to R142: the six register transfers. TXS writes no flag. -/
def Obligations.TransfersCopyOneRegister : Prop :=
  ∀ (s : State) (b1 b2 : Byte),
    decode 0xAA b1 b2 = .ok .tax ∧ exec .tax s = .next { s with x := s.a, p := flagsNZ s.p s.a, pc := s.after 1 } ∧
    decode 0xA8 b1 b2 = .ok .tay ∧ exec .tay s = .next { s with y := s.a, p := flagsNZ s.p s.a, pc := s.after 1 } ∧
    decode 0x8A b1 b2 = .ok .txa ∧ exec .txa s = .next { s with a := s.x, p := flagsNZ s.p s.x, pc := s.after 1 } ∧
    decode 0x98 b1 b2 = .ok .tya ∧ exec .tya s = .next { s with a := s.y, p := flagsNZ s.p s.y, pc := s.after 1 } ∧
    decode 0xBA b1 b2 = .ok .tsx ∧ exec .tsx s = .next { s with x := s.sp, p := flagsNZ s.p s.sp, pc := s.after 1 } ∧
    decode 0x9A b1 b2 = .ok .txs ∧ exec .txs s = .next { s with sp := s.x, pc := s.after 1 }

/-! ## Branches -/

/-- R150 to R158: the eight branches. Taken, `pc` is the address after the instruction plus the signed offset, modulo
65536; not taken, the address after the instruction. Nothing else changes. -/
def Obligations.BranchesTestOneFlag : Prop :=
  ∀ (s : State) (b1 b2 : Byte),
    let claim (op : Byte) (i : Instr) (cond : Bool) : Prop :=
      decode op b1 b2 = .ok i ∧
      exec i s = .next { s with
        pc := if cond = true then BitVec.ofInt 16 ((s.after 2).toNat + b1.toInt) else s.after 2 }
    claim 0x90 (.bcc b1) (!s.p.c) ∧ claim 0xB0 (.bcs b1) s.p.c ∧
    claim 0xF0 (.beq b1) s.p.z ∧ claim 0xD0 (.bne b1) (!s.p.z) ∧
    claim 0x30 (.bmi b1) s.p.n ∧ claim 0x10 (.bpl b1) (!s.p.n) ∧
    claim 0x50 (.bvc b1) (!s.p.v) ∧ claim 0x70 (.bvs b1) s.p.v

/-! ## Stack and flag instructions -/

/-- R165, R166, with R32: PHA and PHP push one byte. The bit places are the spec's own decision D6. PHP's byte has C, Z,
I, D, V, N at bits 0, 1, 2, 3, 6, 7 and 1 at bits 4 and 5, whatever the Break flag is. -/
def Obligations.PushInstructionsStoreOneStackByte : Prop :=
  ∀ (s : State) (b1 b2 : Byte), s.mem.wf = true →
    decode 0x48 b1 b2 = .ok .pha ∧ decode 0x08 b1 b2 = .ok .php ∧
    (∃ t, exec .pha s = .next t ∧ OneByteStored s t (stackByte s.sp) s.a ∧
      t = { s with mem := t.mem, sp := s.sp - 1, pc := s.after 1 }) ∧
    (∃ t v, exec .php s = .next t ∧ OneByteStored s t (stackByte s.sp) v ∧
      t = { s with mem := t.mem, sp := s.sp - 1, pc := s.after 1 } ∧
      v.getLsbD 0 = s.p.c ∧ v.getLsbD 1 = s.p.z ∧ v.getLsbD 2 = s.p.i ∧ v.getLsbD 3 = s.p.d ∧
      v.getLsbD 4 = true ∧ v.getLsbD 5 = true ∧ v.getLsbD 6 = s.p.v ∧ v.getLsbD 7 = s.p.n)

/-- R167, R168, with R33: PLA and PLP. PLP loads six flags; Break and Unused keep their values. -/
def Obligations.PullInstructionsReadOneStackByte : Prop :=
  ∀ (s : State) (b1 b2 : Byte),
    let v := s.read (stackByte (s.sp + 1))
    decode 0x68 b1 b2 = .ok .pla ∧ decode 0x28 b1 b2 = .ok .plp ∧
    exec .pla s = .next { s with a := v, sp := s.sp + 1, p := flagsNZ s.p v, pc := s.after 1 } ∧
    exec .plp s = .next { s with
      sp := s.sp + 1
      p := { s.p with
             c := v.getLsbD 0, z := v.getLsbD 1, i := v.getLsbD 2, d := v.getLsbD 3
             v := v.getLsbD 6, n := v.getLsbD 7 }
      pc := s.after 1 }

/-- R171 to R177: each of the seven writes one flag with a constant and nothing else but `pc`. -/
def Obligations.FlagInstructionsWriteOneFlag : Prop :=
  ∀ (s : State) (b1 b2 : Byte),
    let claim (op : Byte) (i : Instr) (q : Status) : Prop :=
      decode op b1 b2 = .ok i ∧ exec i s = .next { s with p := q, pc := s.after 1 }
    claim 0x18 .clc { s.p with c := false } ∧ claim 0x38 .sec { s.p with c := true } ∧
    claim 0x58 .cli { s.p with i := false } ∧ claim 0x78 .sei { s.p with i := true } ∧
    claim 0xD8 .cld { s.p with d := false } ∧ claim 0xF8 .sed { s.p with d := true } ∧
    claim 0xB8 .clv { s.p with v := false }

/-! ## Jumps, calls and returns -/

/-- R185: JMP in both its encodings, the Indirect one with the page-wrap bug. Only `pc` changes. -/
def Obligations.JmpSetsOnlyThePc : Prop :=
  ∀ (s : State) (b1 b2 : Byte),
    decode 0x4C b1 b2 = .ok (.jmpAbs b1 b2) ∧ decode 0x6C b1 b2 = .ok (.jmpInd b1 b2) ∧
    exec (.jmpAbs b1 b2) s = .next { s with pc := b2 ++ b1 } ∧
    exec (.jmpInd b1 b2) s = .next { s with pc := s.read (b2 ++ (b1 + 1)) ++ s.read (b2 ++ b1) }

/-- R187: JSR pushes the address of its own last byte, high byte first, and jumps. Exactly the two stack bytes change. -/
def Obligations.JsrPushesTheAddressOfItsLastByte : Prop :=
  ∀ (s : State) (b1 b2 : Byte), s.mem.wf = true →
    let ret := s.pc + 2
    decode 0x20 b1 b2 = .ok (.jsr b1 b2) ∧
    ∃ t, exec (.jsr b1 b2) s = .next t ∧
      t.read (stackByte s.sp) = ret.extractLsb' 8 8 ∧
      t.read (stackByte (s.sp - 1)) = ret.extractLsb' 0 8 ∧
      (∀ other, other ≠ stackByte s.sp → other ≠ stackByte (s.sp - 1) → t.read other = s.read other) ∧
      t.mem.wf = true ∧ t = { s with mem := t.mem, sp := s.sp - 2, pc := b2 ++ b1 }

/-- R188, R189: RTS and RTI. RTS adds 1 to the pulled address and writes no flag; RTI pulls the status first and adds
nothing. -/
def Obligations.ReturnsPullThePc : Prop :=
  ∀ (s : State) (b1 b2 : Byte),
    let v1 := s.read (stackByte (s.sp + 1))
    let v2 := s.read (stackByte (s.sp + 2))
    let v3 := s.read (stackByte (s.sp + 3))
    decode 0x60 b1 b2 = .ok .rts ∧ decode 0x40 b1 b2 = .ok .rti ∧
    exec .rts s = .next { s with sp := s.sp + 2, pc := (v2 ++ v1) + 1 } ∧
    exec .rti s = .next { s with
      sp := s.sp + 3
      p := { s.p with
             c := v1.getLsbD 0, z := v1.getLsbD 1, i := v1.getLsbD 2, d := v1.getLsbD 3
             v := v1.getLsbD 6, n := v1.getLsbD 7 }
      pc := v3 ++ v2 }

/-- A call returns (R187, R188): after a JSR, an RTS executed in any later state that has the same `SP` and the same two
stack bytes goes to the instruction after the JSR, with `SP` as it was before the call. -/
def Obligations.CallThenReturnComesBack : Prop :=
  ∀ (s : State) (b1 b2 : Byte), s.mem.wf = true →
    ∃ t, exec (.jsr b1 b2) s = .next t ∧
      ∀ w : State, w.sp = t.sp → w.read (stackByte s.sp) = t.read (stackByte s.sp) →
        w.read (stackByte (s.sp - 1)) = t.read (stackByte (s.sp - 1)) →
        ∃ r, exec .rts w = .next r ∧ r.pc = s.pc + 3 ∧ r.sp = s.sp

/-! ## Compares, shifts, increments and decrements -/

/-- R195 to R198: CMP, CPX and CPY in all their encodings set Carry, Zero and Negative from the difference and change
nothing else but `pc`. -/
def Obligations.ComparesSetCarryZeroNegative : Prop :=
  ∀ (s : State) (b1 b2 : Byte),
    let claim (rows : List EncodingRow) (reg : Byte) : Prop :=
      ∀ row ∈ rows, decode row.opcode b1 b2 = .ok row.instr ∧
        ∃ m, (row.operand b1 b2 s).load s = some m ∧
          exec row.instr s = .next { s with
            p := { s.p with c := decide (m.toNat ≤ reg.toNat), z := decide (reg = m), n := (reg - m).msb }
            pc := s.after row.length }
    claim (cmpRows b1 b2) s.a ∧ claim (cpxRows b1 b2) s.x ∧ claim (cpyRows b1 b2) s.y

/-- R201 to R204, with R200: the shifts and rotates in all their encodings, as arithmetic on the byte. -/
def Obligations.ShiftsAndRotatesMoveOneBit : Prop :=
  ReadModifyWrite aslRows (fun m _ => BitVec.ofNat 8 (m.toNat * 2)) (fun m _ => m.getLsbD 7) ∧
  ReadModifyWrite lsrRows (fun m _ => BitVec.ofNat 8 (m.toNat / 2)) (fun m _ => m.getLsbD 0) ∧
  ReadModifyWrite rolRows (fun m c => BitVec.ofNat 8 (m.toNat * 2 % 256 + c.toNat)) (fun m _ => m.getLsbD 7) ∧
  ReadModifyWrite rorRows (fun m c => BitVec.ofNat 8 (m.toNat / 2 + c.toNat * 128)) (fun m _ => m.getLsbD 0)

/-- R205, R206: INC and DEC of memory in all their encodings. Carry is not touched. -/
def Obligations.IncAndDecCountMemory : Prop :=
  ReadModifyWrite incRows (fun m _ => BitVec.ofNat 8 (m.toNat + 1)) (fun _ c => c) ∧
  ReadModifyWrite decRows (fun m _ => BitVec.ofNat 8 (m.toNat + 255)) (fun _ c => c)

/-- R207 to R210: INX, INY, DEX and DEY. -/
def Obligations.IndexRegistersCount : Prop :=
  ∀ (s : State) (b1 b2 : Byte),
    decode 0xE8 b1 b2 = .ok .inx ∧
    exec .inx s = .next { s with x := s.x + 1, p := flagsNZ s.p (s.x + 1), pc := s.after 1 } ∧
    decode 0xC8 b1 b2 = .ok .iny ∧
    exec .iny s = .next { s with y := s.y + 1, p := flagsNZ s.p (s.y + 1), pc := s.after 1 } ∧
    decode 0xCA b1 b2 = .ok .dex ∧
    exec .dex s = .next { s with x := s.x - 1, p := flagsNZ s.p (s.x - 1), pc := s.after 1 } ∧
    decode 0x88 b1 b2 = .ok .dey ∧
    exec .dey s = .next { s with y := s.y - 1, p := flagsNZ s.p (s.y - 1), pc := s.after 1 }

/-- R203's corner case: nine ROLs of one location, the accumulator or a memory byte, restore it and Carry. -/
def Obligations.NineRotationsRestore : Prop :=
  ∀ (l : Place) (len : Nat) (s : State), s.mem.wf = true →
    ∃ t, repeatOp (rol l len) 9 s = .next t ∧ l.load t = l.load s ∧ t.p.c = s.p.c

/-! ## NOP and BRK -/

/-- R220: NOP changes `pc` only. -/
def Obligations.NopOnlyAdvances : Prop :=
  ∀ (s : State) (b1 b2 : Byte),
    decode 0xEA b1 b2 = .ok .nop ∧ exec .nop s = .next { s with pc := s.pc + 1 }

/-- R221 (what BRK does beside halting is the spec's own decision D2): BRK sets Break, halts the unit and advances `pc`
by one; nothing is pushed, and its result is `Halt`. -/
def Obligations.BrkHaltsTheUnit : Prop :=
  ∀ (s : State) (b1 b2 : Byte),
    let t := { s with
      p := { s.p with b := true }, runState := .halted, haltCause := .brk, pc := s.pc + 1 }
    decode 0x00 b1 b2 = .ok .brk ∧ exec .brk s = .next t ∧ t.result = .halt

/-! ## Whole-machine rules -/

/-- R27's "written by" column: for every instruction and every state, a flag that changes is changed by one of the
instructions the column lists, and the Unused bit by none (R28). For ADC and SBC with `P.D = 1` that there is a next
state rests on the model's choice of DECIMAL_POLICY (log 3). -/
def Obligations.FlagsAreWrittenOnlyByTheirWriters : Prop :=
  ∀ (i : Instr) (s : State), ∃ t, exec i s = .next t ∧
    (t.p.c ≠ s.p.c → i.mnemonic ∈
      [.adc, .sbc, .cmp, .cpx, .cpy, .asl, .lsr, .rol, .ror, .clc, .sec, .plp, .rti]) ∧
    (t.p.z ≠ s.p.z ∨ t.p.n ≠ s.p.n → i.mnemonic ∈
      [.adc, .sbc, .and, .ora, .eor, .bit, .lda, .ldx, .ldy, .tax, .tay, .txa, .tya, .tsx, .pla, .plp, .rti,
       .cmp, .cpx, .cpy, .asl, .lsr, .rol, .ror, .inc, .dec, .inx, .iny, .dex, .dey]) ∧
    (t.p.i ≠ s.p.i → i.mnemonic ∈ [.sei, .cli, .plp, .rti]) ∧
    (t.p.d ≠ s.p.d → i.mnemonic ∈ [.sed, .cld, .plp, .rti]) ∧
    (t.p.b ≠ s.p.b → i.mnemonic = .brk) ∧
    (t.p.v ≠ s.p.v → i.mnemonic ∈ [.adc, .sbc, .bit, .clv, .plp, .rti]) ∧
    t.p.u = s.p.u

/-- R21 to R26: for every instruction and every state, which instructions write `A`, `X`, `Y` and `SP`, and that `pc`
ends at the next instruction unless the instruction sets it. The control state is written by BRK alone, and the fault
report and the phase by no instruction (R34, R35). For ADC and SBC with `P.D = 1` that there is a next state rests on
the model's choice of DECIMAL_POLICY (log 3). -/
def Obligations.RegistersAreWrittenOnlyByTheirWriters : Prop :=
  ∀ (i : Instr) (s : State), ∃ t, exec i s = .next t ∧
    (t.a ≠ s.a → i.mnemonic ∈ [.adc, .sbc, .and, .ora, .eor, .lda, .pla, .txa, .tya] ∨
      i.mnemonic ∈ [.asl, .lsr, .rol, .ror] ∧ i.mode = .accumulator) ∧
    (t.x ≠ s.x → i.mnemonic ∈ [.ldx, .tax, .tsx, .inx, .dex]) ∧
    (t.y ≠ s.y → i.mnemonic ∈ [.ldy, .tay, .iny, .dey]) ∧
    (t.sp ≠ s.sp → i.mnemonic ∈ [.pha, .php, .jsr, .pla, .plp, .rts, .rti, .txs]) ∧
    (i.mnemonic ∉ setsPc → t.pc = s.after i.length) ∧
    (t.runState ≠ s.runState ∨ t.haltCause ≠ s.haltCause → i.mnemonic = .brk) ∧
    t.faultOpcode = s.faultOpcode ∧ t.faultPc = s.faultPc ∧ t.phase = s.phase

/-- Every byte of memory that is not one of the addresses an instruction stores to reads as before, for every
instruction (R51, R59). For the instructions that store nothing that is all of memory. For ADC and SBC with `P.D = 1`
that there is a next state rests on the model's choice of DECIMAL_POLICY (log 3). -/
def Obligations.MemoryChangesOnlyAtStoredAddresses : Prop :=
  ∀ (i : Instr) (s : State), s.mem.wf = true →
    ∃ t, exec i s = .next t ∧ t.mem.wf = true ∧
      ∀ adr : Addr, adr ∉ storedAddresses i s → t.read adr = s.read adr

/-- R30 and R112: InterruptDisable and Decimal are storage only. Running an instruction that neither writes nor pushes
them from a state that differs in the two flags gives the same next state but for the two flags. For Decimal this rests
on the model's choice of DECIMAL_POLICY (log 3). -/
def Obligations.InterruptAndDecimalFlagsAreStorageOnly : Prop :=
  ∀ (i : Instr) (s : State) (vi vd : Bool),
    i.mnemonic ∉ [.sei, .cli, .sed, .cld, .php, .plp, .rti] →
    exec i ((s.setI vi).setD vd) = mapNext (fun t => (t.setI vi).setD vd) (exec i s)

/-- R34 and R35: no instruction reads the control state, the fault report or the phase. From a state that differs in
them, an instruction other than BRK gives the same next state but for them, and BRK but for the fault report and the
phase, which it does not write. -/
def Obligations.ControlStateIsReadByNoInstruction : Prop :=
  ∀ (i : Instr) (s : State) (run : RunState) (cause : HaltCause) (op : Byte) (adr : Addr) (ph : Phase),
    let other (t : State) : State :=
      { t with runState := run, haltCause := cause, faultOpcode := op, faultPc := adr, phase := ph }
    (i ≠ .brk → exec i (other s) = mapNext other (exec i s)) ∧
    exec .brk (other s) =
      mapNext (fun t => { t with faultOpcode := op, faultPc := adr, phase := ph }) (exec .brk s)

/-! ## The open parameter -/

/-- R11: DECIMAL_POLICY is an argument of the model, and the machine the host runs is the model at the default that
`Config.decimalPolicy` names (the model's choice, log 3): every instruction, every step, and the machine as a whole. -/
def Obligations.DefaultPolicyGivesTheHostsMachine : Prop :=
  Config.decimalPolicy = .binary ∧
  (∀ (i : Instr) (s : State), execUnder .binary i s = exec i s) ∧
  (∀ s : State, stepUnder .binary s = step s) ∧ coreUnder .binary = core

/-- R112 (the spec's own decision D4): under `refuse`, ADC and SBC executed while `P.D = 1` have no meaning, and everything
else, every other instruction in every state among it, is as under `binary`. -/
def Obligations.RefusePolicyStopsDecimalAddAndSubtractOnly : Prop :=
  ∀ (i : Instr) (s : State),
    execUnder .refuse i s =
      if (i.mnemonic = .adc ∨ i.mnemonic = .sbc) ∧ s.p.d = true then .refused .decimalMode
      else execUnder .binary i s

/-- R111, R113 with R112: under either policy, wherever the spec gives ADC and SBC their meaning, in all their encodings, they
are the same instruction (whose effect AdcAddsWithCarry and SbcSubtractsWithBorrow state), and they complete. That `exec`
stands at `binary` is the model's choice (log 3). -/
def Obligations.AddAndSubtractUnderEitherPolicyComplete : Prop :=
  ∀ (policy : DecimalPolicy) (s : State) (b1 b2 : Byte), policy = .binary ∨ s.p.d = false →
    ∀ row ∈ adcRows b1 b2 ++ sbcRows b1 b2,
      execUnder policy row.instr s = exec row.instr s ∧ ∃ t, execUnder policy row.instr s = .next t

/-- R75 with R112 (the spec's own decision D4): a step under `refuse` stops, under that one name, exactly when the unit is
Running, `P.D = 1`, and the bytes at `pc` are an ADC or an SBC; every other step is the step under `binary`, and a step under
`binary` always completes. -/
def Obligations.StepUnderRefuseStopsOnDecimalAddAndSubtractOnly : Prop :=
  ∀ s : State,
    let stops : Prop := s.runState = .running ∧ s.p.d = true ∧
      ∃ i, s.fetchDecode = .ok i ∧ (i.mnemonic = .adc ∨ i.mnemonic = .sbc)
    (stops → stepUnder .refuse s = .refused .decimalMode) ∧
    (¬ stops → stepUnder .refuse s = stepUnder .binary s) ∧
    ∃ t, stepUnder .binary s = .next t

/-- The invariant does not depend on the parameter: from ANY state that meets it, every step under either policy that leads to
a state leads to one that meets it. -/
def Obligations.EveryStepUnderEitherPolicyKeepsTheInvariant : Prop :=
  ∀ (policy : DecimalPolicy) (s t : State), s.Inv → stepUnder policy s = .next t → t.Inv
end

