-- ==== Sys2Proof/Laws/Decode.lean ====
section
/-! SUPPORT. What the decoder answers on each assigned opcode byte, whatever the operand bytes are (R78): one equation for
each row of spec/opcode_table.json, and what follows for every byte at once, so that no later
proof unfolds the decoder's table. -/

namespace Sys2Proof

@[simp] theorem decode_brk (b1 b2 : Byte) : decode 0x00#8 b1 b2 = .ok .brk := rfl
@[simp] theorem decode_oraIndX (b1 b2 : Byte) : decode 0x01#8 b1 b2 = .ok (.oraIndX b1) := rfl
@[simp] theorem decode_oraZp (b1 b2 : Byte) : decode 0x05#8 b1 b2 = .ok (.oraZp b1) := rfl
@[simp] theorem decode_aslZp (b1 b2 : Byte) : decode 0x06#8 b1 b2 = .ok (.aslZp b1) := rfl
@[simp] theorem decode_php (b1 b2 : Byte) : decode 0x08#8 b1 b2 = .ok .php := rfl
@[simp] theorem decode_oraImm (b1 b2 : Byte) : decode 0x09#8 b1 b2 = .ok (.oraImm b1) := rfl
@[simp] theorem decode_aslAcc (b1 b2 : Byte) : decode 0x0A#8 b1 b2 = .ok .aslAcc := rfl
@[simp] theorem decode_oraAbs (b1 b2 : Byte) : decode 0x0D#8 b1 b2 = .ok (.oraAbs b1 b2) := rfl
@[simp] theorem decode_aslAbs (b1 b2 : Byte) : decode 0x0E#8 b1 b2 = .ok (.aslAbs b1 b2) := rfl
@[simp] theorem decode_bpl (b1 b2 : Byte) : decode 0x10#8 b1 b2 = .ok (.bpl b1) := rfl
@[simp] theorem decode_oraIndY (b1 b2 : Byte) : decode 0x11#8 b1 b2 = .ok (.oraIndY b1) := rfl
@[simp] theorem decode_oraZpX (b1 b2 : Byte) : decode 0x15#8 b1 b2 = .ok (.oraZpX b1) := rfl
@[simp] theorem decode_aslZpX (b1 b2 : Byte) : decode 0x16#8 b1 b2 = .ok (.aslZpX b1) := rfl
@[simp] theorem decode_clc (b1 b2 : Byte) : decode 0x18#8 b1 b2 = .ok .clc := rfl
@[simp] theorem decode_oraAbsY (b1 b2 : Byte) : decode 0x19#8 b1 b2 = .ok (.oraAbsY b1 b2) := rfl
@[simp] theorem decode_oraAbsX (b1 b2 : Byte) : decode 0x1D#8 b1 b2 = .ok (.oraAbsX b1 b2) := rfl
@[simp] theorem decode_aslAbsX (b1 b2 : Byte) : decode 0x1E#8 b1 b2 = .ok (.aslAbsX b1 b2) := rfl
@[simp] theorem decode_jsr (b1 b2 : Byte) : decode 0x20#8 b1 b2 = .ok (.jsr b1 b2) := rfl
@[simp] theorem decode_andIndX (b1 b2 : Byte) : decode 0x21#8 b1 b2 = .ok (.andIndX b1) := rfl
@[simp] theorem decode_bitZp (b1 b2 : Byte) : decode 0x24#8 b1 b2 = .ok (.bitZp b1) := rfl
@[simp] theorem decode_andZp (b1 b2 : Byte) : decode 0x25#8 b1 b2 = .ok (.andZp b1) := rfl
@[simp] theorem decode_rolZp (b1 b2 : Byte) : decode 0x26#8 b1 b2 = .ok (.rolZp b1) := rfl
@[simp] theorem decode_plp (b1 b2 : Byte) : decode 0x28#8 b1 b2 = .ok .plp := rfl
@[simp] theorem decode_andImm (b1 b2 : Byte) : decode 0x29#8 b1 b2 = .ok (.andImm b1) := rfl
@[simp] theorem decode_rolAcc (b1 b2 : Byte) : decode 0x2A#8 b1 b2 = .ok .rolAcc := rfl
@[simp] theorem decode_bitAbs (b1 b2 : Byte) : decode 0x2C#8 b1 b2 = .ok (.bitAbs b1 b2) := rfl
@[simp] theorem decode_andAbs (b1 b2 : Byte) : decode 0x2D#8 b1 b2 = .ok (.andAbs b1 b2) := rfl
@[simp] theorem decode_rolAbs (b1 b2 : Byte) : decode 0x2E#8 b1 b2 = .ok (.rolAbs b1 b2) := rfl
@[simp] theorem decode_bmi (b1 b2 : Byte) : decode 0x30#8 b1 b2 = .ok (.bmi b1) := rfl
@[simp] theorem decode_andIndY (b1 b2 : Byte) : decode 0x31#8 b1 b2 = .ok (.andIndY b1) := rfl
@[simp] theorem decode_andZpX (b1 b2 : Byte) : decode 0x35#8 b1 b2 = .ok (.andZpX b1) := rfl
@[simp] theorem decode_rolZpX (b1 b2 : Byte) : decode 0x36#8 b1 b2 = .ok (.rolZpX b1) := rfl
@[simp] theorem decode_sec (b1 b2 : Byte) : decode 0x38#8 b1 b2 = .ok .sec := rfl
@[simp] theorem decode_andAbsY (b1 b2 : Byte) : decode 0x39#8 b1 b2 = .ok (.andAbsY b1 b2) := rfl
@[simp] theorem decode_andAbsX (b1 b2 : Byte) : decode 0x3D#8 b1 b2 = .ok (.andAbsX b1 b2) := rfl
@[simp] theorem decode_rolAbsX (b1 b2 : Byte) : decode 0x3E#8 b1 b2 = .ok (.rolAbsX b1 b2) := rfl
@[simp] theorem decode_rti (b1 b2 : Byte) : decode 0x40#8 b1 b2 = .ok .rti := rfl
@[simp] theorem decode_eorIndX (b1 b2 : Byte) : decode 0x41#8 b1 b2 = .ok (.eorIndX b1) := rfl
@[simp] theorem decode_eorZp (b1 b2 : Byte) : decode 0x45#8 b1 b2 = .ok (.eorZp b1) := rfl
@[simp] theorem decode_lsrZp (b1 b2 : Byte) : decode 0x46#8 b1 b2 = .ok (.lsrZp b1) := rfl
@[simp] theorem decode_pha (b1 b2 : Byte) : decode 0x48#8 b1 b2 = .ok .pha := rfl
@[simp] theorem decode_eorImm (b1 b2 : Byte) : decode 0x49#8 b1 b2 = .ok (.eorImm b1) := rfl
@[simp] theorem decode_lsrAcc (b1 b2 : Byte) : decode 0x4A#8 b1 b2 = .ok .lsrAcc := rfl
@[simp] theorem decode_jmpAbs (b1 b2 : Byte) : decode 0x4C#8 b1 b2 = .ok (.jmpAbs b1 b2) := rfl
@[simp] theorem decode_eorAbs (b1 b2 : Byte) : decode 0x4D#8 b1 b2 = .ok (.eorAbs b1 b2) := rfl
@[simp] theorem decode_lsrAbs (b1 b2 : Byte) : decode 0x4E#8 b1 b2 = .ok (.lsrAbs b1 b2) := rfl
@[simp] theorem decode_bvc (b1 b2 : Byte) : decode 0x50#8 b1 b2 = .ok (.bvc b1) := rfl
@[simp] theorem decode_eorIndY (b1 b2 : Byte) : decode 0x51#8 b1 b2 = .ok (.eorIndY b1) := rfl
@[simp] theorem decode_eorZpX (b1 b2 : Byte) : decode 0x55#8 b1 b2 = .ok (.eorZpX b1) := rfl
@[simp] theorem decode_lsrZpX (b1 b2 : Byte) : decode 0x56#8 b1 b2 = .ok (.lsrZpX b1) := rfl
@[simp] theorem decode_cli (b1 b2 : Byte) : decode 0x58#8 b1 b2 = .ok .cli := rfl
@[simp] theorem decode_eorAbsY (b1 b2 : Byte) : decode 0x59#8 b1 b2 = .ok (.eorAbsY b1 b2) := rfl
@[simp] theorem decode_eorAbsX (b1 b2 : Byte) : decode 0x5D#8 b1 b2 = .ok (.eorAbsX b1 b2) := rfl
@[simp] theorem decode_lsrAbsX (b1 b2 : Byte) : decode 0x5E#8 b1 b2 = .ok (.lsrAbsX b1 b2) := rfl
@[simp] theorem decode_rts (b1 b2 : Byte) : decode 0x60#8 b1 b2 = .ok .rts := rfl
@[simp] theorem decode_adcIndX (b1 b2 : Byte) : decode 0x61#8 b1 b2 = .ok (.adcIndX b1) := rfl
@[simp] theorem decode_adcZp (b1 b2 : Byte) : decode 0x65#8 b1 b2 = .ok (.adcZp b1) := rfl
@[simp] theorem decode_rorZp (b1 b2 : Byte) : decode 0x66#8 b1 b2 = .ok (.rorZp b1) := rfl
@[simp] theorem decode_pla (b1 b2 : Byte) : decode 0x68#8 b1 b2 = .ok .pla := rfl
@[simp] theorem decode_adcImm (b1 b2 : Byte) : decode 0x69#8 b1 b2 = .ok (.adcImm b1) := rfl
@[simp] theorem decode_rorAcc (b1 b2 : Byte) : decode 0x6A#8 b1 b2 = .ok .rorAcc := rfl
@[simp] theorem decode_jmpInd (b1 b2 : Byte) : decode 0x6C#8 b1 b2 = .ok (.jmpInd b1 b2) := rfl
@[simp] theorem decode_adcAbs (b1 b2 : Byte) : decode 0x6D#8 b1 b2 = .ok (.adcAbs b1 b2) := rfl
@[simp] theorem decode_rorAbs (b1 b2 : Byte) : decode 0x6E#8 b1 b2 = .ok (.rorAbs b1 b2) := rfl
@[simp] theorem decode_bvs (b1 b2 : Byte) : decode 0x70#8 b1 b2 = .ok (.bvs b1) := rfl
@[simp] theorem decode_adcIndY (b1 b2 : Byte) : decode 0x71#8 b1 b2 = .ok (.adcIndY b1) := rfl
@[simp] theorem decode_adcZpX (b1 b2 : Byte) : decode 0x75#8 b1 b2 = .ok (.adcZpX b1) := rfl
@[simp] theorem decode_rorZpX (b1 b2 : Byte) : decode 0x76#8 b1 b2 = .ok (.rorZpX b1) := rfl
@[simp] theorem decode_sei (b1 b2 : Byte) : decode 0x78#8 b1 b2 = .ok .sei := rfl
@[simp] theorem decode_adcAbsY (b1 b2 : Byte) : decode 0x79#8 b1 b2 = .ok (.adcAbsY b1 b2) := rfl
@[simp] theorem decode_adcAbsX (b1 b2 : Byte) : decode 0x7D#8 b1 b2 = .ok (.adcAbsX b1 b2) := rfl
@[simp] theorem decode_rorAbsX (b1 b2 : Byte) : decode 0x7E#8 b1 b2 = .ok (.rorAbsX b1 b2) := rfl
@[simp] theorem decode_staIndX (b1 b2 : Byte) : decode 0x81#8 b1 b2 = .ok (.staIndX b1) := rfl
@[simp] theorem decode_styZp (b1 b2 : Byte) : decode 0x84#8 b1 b2 = .ok (.styZp b1) := rfl
@[simp] theorem decode_staZp (b1 b2 : Byte) : decode 0x85#8 b1 b2 = .ok (.staZp b1) := rfl
@[simp] theorem decode_stxZp (b1 b2 : Byte) : decode 0x86#8 b1 b2 = .ok (.stxZp b1) := rfl
@[simp] theorem decode_dey (b1 b2 : Byte) : decode 0x88#8 b1 b2 = .ok .dey := rfl
@[simp] theorem decode_txa (b1 b2 : Byte) : decode 0x8A#8 b1 b2 = .ok .txa := rfl
@[simp] theorem decode_styAbs (b1 b2 : Byte) : decode 0x8C#8 b1 b2 = .ok (.styAbs b1 b2) := rfl
@[simp] theorem decode_staAbs (b1 b2 : Byte) : decode 0x8D#8 b1 b2 = .ok (.staAbs b1 b2) := rfl
@[simp] theorem decode_stxAbs (b1 b2 : Byte) : decode 0x8E#8 b1 b2 = .ok (.stxAbs b1 b2) := rfl
@[simp] theorem decode_bcc (b1 b2 : Byte) : decode 0x90#8 b1 b2 = .ok (.bcc b1) := rfl
@[simp] theorem decode_staIndY (b1 b2 : Byte) : decode 0x91#8 b1 b2 = .ok (.staIndY b1) := rfl
@[simp] theorem decode_styZpX (b1 b2 : Byte) : decode 0x94#8 b1 b2 = .ok (.styZpX b1) := rfl
@[simp] theorem decode_staZpX (b1 b2 : Byte) : decode 0x95#8 b1 b2 = .ok (.staZpX b1) := rfl
@[simp] theorem decode_stxZpY (b1 b2 : Byte) : decode 0x96#8 b1 b2 = .ok (.stxZpY b1) := rfl
@[simp] theorem decode_tya (b1 b2 : Byte) : decode 0x98#8 b1 b2 = .ok .tya := rfl
@[simp] theorem decode_staAbsY (b1 b2 : Byte) : decode 0x99#8 b1 b2 = .ok (.staAbsY b1 b2) := rfl
@[simp] theorem decode_txs (b1 b2 : Byte) : decode 0x9A#8 b1 b2 = .ok .txs := rfl
@[simp] theorem decode_staAbsX (b1 b2 : Byte) : decode 0x9D#8 b1 b2 = .ok (.staAbsX b1 b2) := rfl
@[simp] theorem decode_ldyImm (b1 b2 : Byte) : decode 0xA0#8 b1 b2 = .ok (.ldyImm b1) := rfl
@[simp] theorem decode_ldaIndX (b1 b2 : Byte) : decode 0xA1#8 b1 b2 = .ok (.ldaIndX b1) := rfl
@[simp] theorem decode_ldxImm (b1 b2 : Byte) : decode 0xA2#8 b1 b2 = .ok (.ldxImm b1) := rfl
@[simp] theorem decode_ldyZp (b1 b2 : Byte) : decode 0xA4#8 b1 b2 = .ok (.ldyZp b1) := rfl
@[simp] theorem decode_ldaZp (b1 b2 : Byte) : decode 0xA5#8 b1 b2 = .ok (.ldaZp b1) := rfl
@[simp] theorem decode_ldxZp (b1 b2 : Byte) : decode 0xA6#8 b1 b2 = .ok (.ldxZp b1) := rfl
@[simp] theorem decode_tay (b1 b2 : Byte) : decode 0xA8#8 b1 b2 = .ok .tay := rfl
@[simp] theorem decode_ldaImm (b1 b2 : Byte) : decode 0xA9#8 b1 b2 = .ok (.ldaImm b1) := rfl
@[simp] theorem decode_tax (b1 b2 : Byte) : decode 0xAA#8 b1 b2 = .ok .tax := rfl
@[simp] theorem decode_ldyAbs (b1 b2 : Byte) : decode 0xAC#8 b1 b2 = .ok (.ldyAbs b1 b2) := rfl
@[simp] theorem decode_ldaAbs (b1 b2 : Byte) : decode 0xAD#8 b1 b2 = .ok (.ldaAbs b1 b2) := rfl
@[simp] theorem decode_ldxAbs (b1 b2 : Byte) : decode 0xAE#8 b1 b2 = .ok (.ldxAbs b1 b2) := rfl
@[simp] theorem decode_bcs (b1 b2 : Byte) : decode 0xB0#8 b1 b2 = .ok (.bcs b1) := rfl
@[simp] theorem decode_ldaIndY (b1 b2 : Byte) : decode 0xB1#8 b1 b2 = .ok (.ldaIndY b1) := rfl
@[simp] theorem decode_ldyZpX (b1 b2 : Byte) : decode 0xB4#8 b1 b2 = .ok (.ldyZpX b1) := rfl
@[simp] theorem decode_ldaZpX (b1 b2 : Byte) : decode 0xB5#8 b1 b2 = .ok (.ldaZpX b1) := rfl
@[simp] theorem decode_ldxZpY (b1 b2 : Byte) : decode 0xB6#8 b1 b2 = .ok (.ldxZpY b1) := rfl
@[simp] theorem decode_clv (b1 b2 : Byte) : decode 0xB8#8 b1 b2 = .ok .clv := rfl
@[simp] theorem decode_ldaAbsY (b1 b2 : Byte) : decode 0xB9#8 b1 b2 = .ok (.ldaAbsY b1 b2) := rfl
@[simp] theorem decode_tsx (b1 b2 : Byte) : decode 0xBA#8 b1 b2 = .ok .tsx := rfl
@[simp] theorem decode_ldyAbsX (b1 b2 : Byte) : decode 0xBC#8 b1 b2 = .ok (.ldyAbsX b1 b2) := rfl
@[simp] theorem decode_ldaAbsX (b1 b2 : Byte) : decode 0xBD#8 b1 b2 = .ok (.ldaAbsX b1 b2) := rfl
@[simp] theorem decode_ldxAbsY (b1 b2 : Byte) : decode 0xBE#8 b1 b2 = .ok (.ldxAbsY b1 b2) := rfl
@[simp] theorem decode_cpyImm (b1 b2 : Byte) : decode 0xC0#8 b1 b2 = .ok (.cpyImm b1) := rfl
@[simp] theorem decode_cmpIndX (b1 b2 : Byte) : decode 0xC1#8 b1 b2 = .ok (.cmpIndX b1) := rfl
@[simp] theorem decode_cpyZp (b1 b2 : Byte) : decode 0xC4#8 b1 b2 = .ok (.cpyZp b1) := rfl
@[simp] theorem decode_cmpZp (b1 b2 : Byte) : decode 0xC5#8 b1 b2 = .ok (.cmpZp b1) := rfl
@[simp] theorem decode_decZp (b1 b2 : Byte) : decode 0xC6#8 b1 b2 = .ok (.decZp b1) := rfl
@[simp] theorem decode_iny (b1 b2 : Byte) : decode 0xC8#8 b1 b2 = .ok .iny := rfl
@[simp] theorem decode_cmpImm (b1 b2 : Byte) : decode 0xC9#8 b1 b2 = .ok (.cmpImm b1) := rfl
@[simp] theorem decode_dex (b1 b2 : Byte) : decode 0xCA#8 b1 b2 = .ok .dex := rfl
@[simp] theorem decode_cpyAbs (b1 b2 : Byte) : decode 0xCC#8 b1 b2 = .ok (.cpyAbs b1 b2) := rfl
@[simp] theorem decode_cmpAbs (b1 b2 : Byte) : decode 0xCD#8 b1 b2 = .ok (.cmpAbs b1 b2) := rfl
@[simp] theorem decode_decAbs (b1 b2 : Byte) : decode 0xCE#8 b1 b2 = .ok (.decAbs b1 b2) := rfl
@[simp] theorem decode_bne (b1 b2 : Byte) : decode 0xD0#8 b1 b2 = .ok (.bne b1) := rfl
@[simp] theorem decode_cmpIndY (b1 b2 : Byte) : decode 0xD1#8 b1 b2 = .ok (.cmpIndY b1) := rfl
@[simp] theorem decode_cmpZpX (b1 b2 : Byte) : decode 0xD5#8 b1 b2 = .ok (.cmpZpX b1) := rfl
@[simp] theorem decode_decZpX (b1 b2 : Byte) : decode 0xD6#8 b1 b2 = .ok (.decZpX b1) := rfl
@[simp] theorem decode_cld (b1 b2 : Byte) : decode 0xD8#8 b1 b2 = .ok .cld := rfl
@[simp] theorem decode_cmpAbsY (b1 b2 : Byte) : decode 0xD9#8 b1 b2 = .ok (.cmpAbsY b1 b2) := rfl
@[simp] theorem decode_cmpAbsX (b1 b2 : Byte) : decode 0xDD#8 b1 b2 = .ok (.cmpAbsX b1 b2) := rfl
@[simp] theorem decode_decAbsX (b1 b2 : Byte) : decode 0xDE#8 b1 b2 = .ok (.decAbsX b1 b2) := rfl
@[simp] theorem decode_cpxImm (b1 b2 : Byte) : decode 0xE0#8 b1 b2 = .ok (.cpxImm b1) := rfl
@[simp] theorem decode_sbcIndX (b1 b2 : Byte) : decode 0xE1#8 b1 b2 = .ok (.sbcIndX b1) := rfl
@[simp] theorem decode_cpxZp (b1 b2 : Byte) : decode 0xE4#8 b1 b2 = .ok (.cpxZp b1) := rfl
@[simp] theorem decode_sbcZp (b1 b2 : Byte) : decode 0xE5#8 b1 b2 = .ok (.sbcZp b1) := rfl
@[simp] theorem decode_incZp (b1 b2 : Byte) : decode 0xE6#8 b1 b2 = .ok (.incZp b1) := rfl
@[simp] theorem decode_inx (b1 b2 : Byte) : decode 0xE8#8 b1 b2 = .ok .inx := rfl
@[simp] theorem decode_sbcImm (b1 b2 : Byte) : decode 0xE9#8 b1 b2 = .ok (.sbcImm b1) := rfl
@[simp] theorem decode_nop (b1 b2 : Byte) : decode 0xEA#8 b1 b2 = .ok .nop := rfl
@[simp] theorem decode_cpxAbs (b1 b2 : Byte) : decode 0xEC#8 b1 b2 = .ok (.cpxAbs b1 b2) := rfl
@[simp] theorem decode_sbcAbs (b1 b2 : Byte) : decode 0xED#8 b1 b2 = .ok (.sbcAbs b1 b2) := rfl
@[simp] theorem decode_incAbs (b1 b2 : Byte) : decode 0xEE#8 b1 b2 = .ok (.incAbs b1 b2) := rfl
@[simp] theorem decode_beq (b1 b2 : Byte) : decode 0xF0#8 b1 b2 = .ok (.beq b1) := rfl
@[simp] theorem decode_sbcIndY (b1 b2 : Byte) : decode 0xF1#8 b1 b2 = .ok (.sbcIndY b1) := rfl
@[simp] theorem decode_sbcZpX (b1 b2 : Byte) : decode 0xF5#8 b1 b2 = .ok (.sbcZpX b1) := rfl
@[simp] theorem decode_incZpX (b1 b2 : Byte) : decode 0xF6#8 b1 b2 = .ok (.incZpX b1) := rfl
@[simp] theorem decode_sed (b1 b2 : Byte) : decode 0xF8#8 b1 b2 = .ok .sed := rfl
@[simp] theorem decode_sbcAbsY (b1 b2 : Byte) : decode 0xF9#8 b1 b2 = .ok (.sbcAbsY b1 b2) := rfl
@[simp] theorem decode_sbcAbsX (b1 b2 : Byte) : decode 0xFD#8 b1 b2 = .ok (.sbcAbsX b1 b2) := rfl
@[simp] theorem decode_incAbsX (b1 b2 : Byte) : decode 0xFE#8 b1 b2 = .ok (.incAbsX b1 b2) := rfl

/-- What a byte decodes to is encoded as that byte and as many of the operand bytes as its mode has. -/
theorem encode_of_decodeOpcode {op b1 b2 : Byte} {i : Instr} (h : decodeOpcode op b1 b2 = some i) :
    encode i = op :: [b1, b2].take i.mode.operandBytes := by
  obtain ⟨n, rfl⟩ : ∃ n : Fin 256, op = BitVec.ofNat 8 n.val := ⟨⟨op.toNat, op.isLt⟩, by simp⟩
  fin_cases n <;>
    first
    | exact absurd (show (none : Option Instr) = some i from h) (by simp)
    | (obtain rfl := Option.some.inj h; rfl)

/-- Whether a byte is assigned does not depend on the operand bytes. -/
theorem decodeOpcode_none {op b1 b2 : Byte} (h : decodeOpcode op b1 b2 = none) (c1 c2 : Byte) :
    decodeOpcode op c1 c2 = none := by
  cases e : decodeOpcode op c1 c2 with
  | none => rfl
  | some i =>
    obtain ⟨n, rfl⟩ : ∃ n : Fin 256, op = BitVec.ofNat 8 n.val := ⟨⟨op.toNat, op.isLt⟩, by simp⟩
    revert e h
    fin_cases n <;>
      first
      | exact fun _ e => absurd (show (none : Option Instr) = some i from e) (by simp)
      | exact fun h => absurd (show some _ = (none : Option Instr) from h) (by simp)

/-- The same, for the decoder. -/
theorem encode_of_decode {op b1 b2 : Byte} {i : Instr} (h : decode op b1 b2 = .ok i) :
    encode i = op :: [b1, b2].take i.mode.operandBytes := by
  unfold decode at h
  split at h
  · rename_i e; cases h; exact encode_of_decodeOpcode e
  · cases h

/-- The decoder rejects a byte exactly when the dispatch record is absent. -/
theorem decode_error_iff (op b1 b2 : Byte) :
    decode op b1 b2 = .error (.unassigned op) ↔ dispatchRom op = none := by
  unfold decode dispatchRom
  cases h : decodeOpcode op b1 b2 with
  | none => simp [decodeOpcode_none h 0#8 0#8]
  | some i =>
    have : decodeOpcode op 0#8 0#8 ≠ none := fun h' => by simp [decodeOpcode_none h' b1 b2] at h
    simp [this]

end Sys2Proof
end

