-- ==== Sys2Proof/Laws/Memory.lean ====
section
/-! SUPPORT. The laws of memory as data: a write changes one byte and no other, and keeps the canonical form. -/

namespace Sys2Proof.Machine

open Sys2Proof

@[simp] theorem Memory.read_nil (adr : Nat) : Memory.read [] adr = Memory.unlisted := rfl

/-- Below the lowest listed address every byte is the reset contents. -/
theorem Memory.read_below {m : Memory} {low adr : Nat} (h : Memory.wfFrom low m = true)
    (lt : adr < low) : Memory.read m adr = Memory.unlisted := by
  induction m generalizing low with
  | nil => rfl
  | cons cell rest ih =>
    obtain ⟨k, w⟩ := cell
    simp only [Memory.wfFrom, Bool.and_eq_true, decide_eq_true_eq] at h
    obtain ⟨⟨⟨hk, -⟩, -⟩, hrest⟩ := h
    have : k ≠ adr := by omega
    simpa [Memory.read, this] using ih hrest (by omega)

/-- A weaker lower bound. -/
theorem Memory.wfFrom_mono {m : Memory} {low low' : Nat} (h : Memory.wfFrom low m = true)
    (le : low' ≤ low) : Memory.wfFrom low' m = true := by
  cases m with
  | nil => rfl
  | cons cell rest =>
    simp only [Memory.wfFrom, Bool.and_eq_true, decide_eq_true_eq] at h ⊢
    exact ⟨⟨⟨Nat.le_trans le h.1.1.1, h.1.1.2⟩, h.1.2⟩, h.2⟩

/-- A write at or above the lower bound keeps the canonical form. -/
theorem Memory.wfFrom_write {m : Memory} {low adr : Nat} (v : Byte)
    (h : Memory.wfFrom low m = true) (le : low ≤ adr) (lt : adr < 65536) :
    Memory.wfFrom low (Memory.write m adr v) = true := by
  induction m generalizing low with
  | nil =>
    by_cases hv : v = Memory.unlisted <;> simp [Memory.write, Memory.wfFrom, hv, le, lt]
  | cons cell rest ih =>
    obtain ⟨k, w⟩ := cell
    have h0 := h
    simp only [Memory.wfFrom, Bool.and_eq_true, decide_eq_true_eq] at h
    obtain ⟨⟨⟨hk, hk'⟩, hw⟩, hrest⟩ := h
    simp only [Memory.write]
    split
    · split
      · exact h0
      · rename_i hlt hv
        simp_all [Memory.wfFrom]
    · split
      · split
        · exact Memory.wfFrom_mono hrest (by omega)
        · rename_i hnlt heq hv
          subst heq
          simp_all [Memory.wfFrom]
      · simp only [Memory.wfFrom, Bool.and_eq_true, decide_eq_true_eq]
        exact ⟨⟨⟨hk, hk'⟩, hw⟩, ih hrest (by omega)⟩

/-- Every write keeps the canonical form. -/
theorem Memory.wf_write {m : Memory} (adr : Addr) (v : Byte) (h : m.wf = true) :
    Memory.wf (Memory.write m adr.toNat v) = true :=
  Memory.wfFrom_write v h (Nat.zero_le _) adr.isLt

theorem Memory.read_write_same_from {m : Memory} {low adr : Nat} (v : Byte)
    (h : Memory.wfFrom low m = true) : Memory.read (Memory.write m adr v) adr = v := by
  induction m generalizing low with
  | nil => by_cases hv : v = Memory.unlisted <;> simp [Memory.write, Memory.read, hv]
  | cons cell rest ih =>
    obtain ⟨k, w⟩ := cell
    have h0 := h
    simp only [Memory.wfFrom, Bool.and_eq_true, decide_eq_true_eq] at h
    obtain ⟨⟨⟨hk, hk'⟩, hw⟩, hrest⟩ := h
    simp only [Memory.write]
    split
    · split
      · rename_i hlt hv
        subst hv
        have hne : k ≠ adr := by omega
        simpa [Memory.read, hne] using Memory.read_below hrest (by omega)
      · simp [Memory.read]
    · split
      · split
        · rename_i heq hv
          subst hv
          exact Memory.read_below hrest (by omega)
        · simp [Memory.read]
      · rename_i hne
        have : k ≠ adr := fun e => hne e.symm
        simpa [Memory.read, this] using ih hrest

theorem Memory.read_write_other_from {m : Memory} {low adr other : Nat} (v : Byte)
    (h : Memory.wfFrom low m = true) (ne : other ≠ adr) :
    Memory.read (Memory.write m adr v) other = Memory.read m other := by
  have ne' : adr ≠ other := fun e => ne e.symm
  induction m generalizing low with
  | nil => by_cases hv : v = Memory.unlisted <;> simp [Memory.write, Memory.read, hv, ne']
  | cons cell rest ih =>
    obtain ⟨k, w⟩ := cell
    simp only [Memory.wfFrom, Bool.and_eq_true, decide_eq_true_eq] at h
    obtain ⟨⟨⟨hk, hk'⟩, hw⟩, hrest⟩ := h
    simp only [Memory.write]
    split
    · split <;> simp [Memory.read, ne']
    · split
      · rename_i heq
        subst heq
        split <;> simp [Memory.read, ne']
      · simp only [Memory.read]
        split
        · rfl
        · exact ih hrest

/-! ## Reading and writing a state -/

@[simp] theorem State.wf_write (adr : Addr) (v : Byte) {s : State} (h : s.mem.wf = true) :
    (s.write adr v).mem.wf = true :=
  Memory.wf_write adr v h

/-- A read after a write to the same address gives the byte written (R51). -/
theorem State.read_write_same (adr : Addr) (v : Byte) {s : State} (h : s.mem.wf = true) :
    (s.write adr v).read adr = v :=
  Memory.read_write_same_from v h

/-- A write leaves every other address alone (R51). -/
theorem State.read_write_other {adr other : Addr} (v : Byte) {s : State} (h : s.mem.wf = true)
    (ne : other ≠ adr) : (s.write adr v).read other = s.read other :=
  Memory.read_write_other_from v h fun e => ne (BitVec.eq_of_toNat_eq e)

/-- Both laws in one equation. -/
theorem State.read_write (adr other : Addr) (v : Byte) {s : State} (h : s.mem.wf = true) :
    (s.write adr v).read other = if other = adr then v else s.read other := by
  split
  · rename_i e; subst e; exact State.read_write_same _ v h
  · rename_i ne; exact State.read_write_other v h ne

end Sys2Proof.Machine
end

