-- ==== Sys2Proof/Laws/State.lean ====
section
/-! SUPPORT. For each update of a state, what each field holds afterwards: true by definition, so that no later proof
unfolds a record update. -/

namespace Sys2Proof.Machine

open Sys2Proof

@[simp] theorem State.setPc_pc (t : Addr) (s : State) : (s.setPc t).pc = t := rfl
@[simp] theorem State.setPc_sp (t : Addr) (s : State) : (s.setPc t).sp = s.sp := rfl
@[simp] theorem State.setPc_a (t : Addr) (s : State) : (s.setPc t).a = s.a := rfl
@[simp] theorem State.setPc_x (t : Addr) (s : State) : (s.setPc t).x = s.x := rfl
@[simp] theorem State.setPc_y (t : Addr) (s : State) : (s.setPc t).y = s.y := rfl
@[simp] theorem State.setPc_p (t : Addr) (s : State) : (s.setPc t).p = s.p := rfl
@[simp] theorem State.setPc_mem (t : Addr) (s : State) : (s.setPc t).mem = s.mem := rfl
@[simp] theorem State.setPc_runState (t : Addr) (s : State) : (s.setPc t).runState = s.runState := rfl
@[simp] theorem State.setPc_haltCause (t : Addr) (s : State) : (s.setPc t).haltCause = s.haltCause := rfl
@[simp] theorem State.setPc_faultOpcode (t : Addr) (s : State) :
    (s.setPc t).faultOpcode = s.faultOpcode := rfl
@[simp] theorem State.setPc_faultPc (t : Addr) (s : State) : (s.setPc t).faultPc = s.faultPc := rfl
@[simp] theorem State.setPc_phase (t : Addr) (s : State) : (s.setPc t).phase = s.phase := rfl

@[simp] theorem State.setSp_pc (v : Byte) (s : State) : (s.setSp v).pc = s.pc := rfl
@[simp] theorem State.setSp_sp (v : Byte) (s : State) : (s.setSp v).sp = v := rfl
@[simp] theorem State.setSp_a (v : Byte) (s : State) : (s.setSp v).a = s.a := rfl
@[simp] theorem State.setSp_x (v : Byte) (s : State) : (s.setSp v).x = s.x := rfl
@[simp] theorem State.setSp_y (v : Byte) (s : State) : (s.setSp v).y = s.y := rfl
@[simp] theorem State.setSp_p (v : Byte) (s : State) : (s.setSp v).p = s.p := rfl
@[simp] theorem State.setSp_mem (v : Byte) (s : State) : (s.setSp v).mem = s.mem := rfl
@[simp] theorem State.setSp_runState (v : Byte) (s : State) : (s.setSp v).runState = s.runState := rfl
@[simp] theorem State.setSp_haltCause (v : Byte) (s : State) : (s.setSp v).haltCause = s.haltCause := rfl
@[simp] theorem State.setSp_faultOpcode (v : Byte) (s : State) :
    (s.setSp v).faultOpcode = s.faultOpcode := rfl
@[simp] theorem State.setSp_faultPc (v : Byte) (s : State) : (s.setSp v).faultPc = s.faultPc := rfl
@[simp] theorem State.setSp_phase (v : Byte) (s : State) : (s.setSp v).phase = s.phase := rfl

@[simp] theorem State.setA_pc (v : Byte) (s : State) : (s.setA v).pc = s.pc := rfl
@[simp] theorem State.setA_sp (v : Byte) (s : State) : (s.setA v).sp = s.sp := rfl
@[simp] theorem State.setA_a (v : Byte) (s : State) : (s.setA v).a = v := rfl
@[simp] theorem State.setA_x (v : Byte) (s : State) : (s.setA v).x = s.x := rfl
@[simp] theorem State.setA_y (v : Byte) (s : State) : (s.setA v).y = s.y := rfl
@[simp] theorem State.setA_p (v : Byte) (s : State) : (s.setA v).p = s.p := rfl
@[simp] theorem State.setA_mem (v : Byte) (s : State) : (s.setA v).mem = s.mem := rfl
@[simp] theorem State.setA_runState (v : Byte) (s : State) : (s.setA v).runState = s.runState := rfl
@[simp] theorem State.setA_haltCause (v : Byte) (s : State) : (s.setA v).haltCause = s.haltCause := rfl
@[simp] theorem State.setA_faultOpcode (v : Byte) (s : State) : (s.setA v).faultOpcode = s.faultOpcode := rfl
@[simp] theorem State.setA_faultPc (v : Byte) (s : State) : (s.setA v).faultPc = s.faultPc := rfl
@[simp] theorem State.setA_phase (v : Byte) (s : State) : (s.setA v).phase = s.phase := rfl

@[simp] theorem State.setX_pc (v : Byte) (s : State) : (s.setX v).pc = s.pc := rfl
@[simp] theorem State.setX_sp (v : Byte) (s : State) : (s.setX v).sp = s.sp := rfl
@[simp] theorem State.setX_a (v : Byte) (s : State) : (s.setX v).a = s.a := rfl
@[simp] theorem State.setX_x (v : Byte) (s : State) : (s.setX v).x = v := rfl
@[simp] theorem State.setX_y (v : Byte) (s : State) : (s.setX v).y = s.y := rfl
@[simp] theorem State.setX_p (v : Byte) (s : State) : (s.setX v).p = s.p := rfl
@[simp] theorem State.setX_mem (v : Byte) (s : State) : (s.setX v).mem = s.mem := rfl
@[simp] theorem State.setX_runState (v : Byte) (s : State) : (s.setX v).runState = s.runState := rfl
@[simp] theorem State.setX_haltCause (v : Byte) (s : State) : (s.setX v).haltCause = s.haltCause := rfl
@[simp] theorem State.setX_faultOpcode (v : Byte) (s : State) : (s.setX v).faultOpcode = s.faultOpcode := rfl
@[simp] theorem State.setX_faultPc (v : Byte) (s : State) : (s.setX v).faultPc = s.faultPc := rfl
@[simp] theorem State.setX_phase (v : Byte) (s : State) : (s.setX v).phase = s.phase := rfl

@[simp] theorem State.setY_pc (v : Byte) (s : State) : (s.setY v).pc = s.pc := rfl
@[simp] theorem State.setY_sp (v : Byte) (s : State) : (s.setY v).sp = s.sp := rfl
@[simp] theorem State.setY_a (v : Byte) (s : State) : (s.setY v).a = s.a := rfl
@[simp] theorem State.setY_x (v : Byte) (s : State) : (s.setY v).x = s.x := rfl
@[simp] theorem State.setY_y (v : Byte) (s : State) : (s.setY v).y = v := rfl
@[simp] theorem State.setY_p (v : Byte) (s : State) : (s.setY v).p = s.p := rfl
@[simp] theorem State.setY_mem (v : Byte) (s : State) : (s.setY v).mem = s.mem := rfl
@[simp] theorem State.setY_runState (v : Byte) (s : State) : (s.setY v).runState = s.runState := rfl
@[simp] theorem State.setY_haltCause (v : Byte) (s : State) : (s.setY v).haltCause = s.haltCause := rfl
@[simp] theorem State.setY_faultOpcode (v : Byte) (s : State) : (s.setY v).faultOpcode = s.faultOpcode := rfl
@[simp] theorem State.setY_faultPc (v : Byte) (s : State) : (s.setY v).faultPc = s.faultPc := rfl
@[simp] theorem State.setY_phase (v : Byte) (s : State) : (s.setY v).phase = s.phase := rfl

@[simp] theorem State.setP_pc (q : Status) (s : State) : (s.setP q).pc = s.pc := rfl
@[simp] theorem State.setP_sp (q : Status) (s : State) : (s.setP q).sp = s.sp := rfl
@[simp] theorem State.setP_a (q : Status) (s : State) : (s.setP q).a = s.a := rfl
@[simp] theorem State.setP_x (q : Status) (s : State) : (s.setP q).x = s.x := rfl
@[simp] theorem State.setP_y (q : Status) (s : State) : (s.setP q).y = s.y := rfl
@[simp] theorem State.setP_p (q : Status) (s : State) : (s.setP q).p = q := rfl
@[simp] theorem State.setP_mem (q : Status) (s : State) : (s.setP q).mem = s.mem := rfl
@[simp] theorem State.setP_runState (q : Status) (s : State) : (s.setP q).runState = s.runState := rfl
@[simp] theorem State.setP_haltCause (q : Status) (s : State) : (s.setP q).haltCause = s.haltCause := rfl
@[simp] theorem State.setP_faultOpcode (q : Status) (s : State) :
    (s.setP q).faultOpcode = s.faultOpcode := rfl
@[simp] theorem State.setP_faultPc (q : Status) (s : State) : (s.setP q).faultPc = s.faultPc := rfl
@[simp] theorem State.setP_phase (q : Status) (s : State) : (s.setP q).phase = s.phase := rfl

@[simp] theorem State.setC_pc (v : Bool) (s : State) : (s.setC v).pc = s.pc := rfl
@[simp] theorem State.setC_sp (v : Bool) (s : State) : (s.setC v).sp = s.sp := rfl
@[simp] theorem State.setC_a (v : Bool) (s : State) : (s.setC v).a = s.a := rfl
@[simp] theorem State.setC_x (v : Bool) (s : State) : (s.setC v).x = s.x := rfl
@[simp] theorem State.setC_y (v : Bool) (s : State) : (s.setC v).y = s.y := rfl
@[simp] theorem State.setC_p (v : Bool) (s : State) : (s.setC v).p = { s.p with c := v } := rfl
@[simp] theorem State.setC_mem (v : Bool) (s : State) : (s.setC v).mem = s.mem := rfl
@[simp] theorem State.setC_runState (v : Bool) (s : State) : (s.setC v).runState = s.runState := rfl
@[simp] theorem State.setC_haltCause (v : Bool) (s : State) : (s.setC v).haltCause = s.haltCause := rfl
@[simp] theorem State.setC_faultOpcode (v : Bool) (s : State) : (s.setC v).faultOpcode = s.faultOpcode := rfl
@[simp] theorem State.setC_faultPc (v : Bool) (s : State) : (s.setC v).faultPc = s.faultPc := rfl
@[simp] theorem State.setC_phase (v : Bool) (s : State) : (s.setC v).phase = s.phase := rfl

@[simp] theorem State.setI_pc (v : Bool) (s : State) : (s.setI v).pc = s.pc := rfl
@[simp] theorem State.setI_sp (v : Bool) (s : State) : (s.setI v).sp = s.sp := rfl
@[simp] theorem State.setI_a (v : Bool) (s : State) : (s.setI v).a = s.a := rfl
@[simp] theorem State.setI_x (v : Bool) (s : State) : (s.setI v).x = s.x := rfl
@[simp] theorem State.setI_y (v : Bool) (s : State) : (s.setI v).y = s.y := rfl
@[simp] theorem State.setI_p (v : Bool) (s : State) : (s.setI v).p = { s.p with i := v } := rfl
@[simp] theorem State.setI_mem (v : Bool) (s : State) : (s.setI v).mem = s.mem := rfl
@[simp] theorem State.setI_runState (v : Bool) (s : State) : (s.setI v).runState = s.runState := rfl
@[simp] theorem State.setI_haltCause (v : Bool) (s : State) : (s.setI v).haltCause = s.haltCause := rfl
@[simp] theorem State.setI_faultOpcode (v : Bool) (s : State) : (s.setI v).faultOpcode = s.faultOpcode := rfl
@[simp] theorem State.setI_faultPc (v : Bool) (s : State) : (s.setI v).faultPc = s.faultPc := rfl
@[simp] theorem State.setI_phase (v : Bool) (s : State) : (s.setI v).phase = s.phase := rfl

@[simp] theorem State.setD_pc (v : Bool) (s : State) : (s.setD v).pc = s.pc := rfl
@[simp] theorem State.setD_sp (v : Bool) (s : State) : (s.setD v).sp = s.sp := rfl
@[simp] theorem State.setD_a (v : Bool) (s : State) : (s.setD v).a = s.a := rfl
@[simp] theorem State.setD_x (v : Bool) (s : State) : (s.setD v).x = s.x := rfl
@[simp] theorem State.setD_y (v : Bool) (s : State) : (s.setD v).y = s.y := rfl
@[simp] theorem State.setD_p (v : Bool) (s : State) : (s.setD v).p = { s.p with d := v } := rfl
@[simp] theorem State.setD_mem (v : Bool) (s : State) : (s.setD v).mem = s.mem := rfl
@[simp] theorem State.setD_runState (v : Bool) (s : State) : (s.setD v).runState = s.runState := rfl
@[simp] theorem State.setD_haltCause (v : Bool) (s : State) : (s.setD v).haltCause = s.haltCause := rfl
@[simp] theorem State.setD_faultOpcode (v : Bool) (s : State) : (s.setD v).faultOpcode = s.faultOpcode := rfl
@[simp] theorem State.setD_faultPc (v : Bool) (s : State) : (s.setD v).faultPc = s.faultPc := rfl
@[simp] theorem State.setD_phase (v : Bool) (s : State) : (s.setD v).phase = s.phase := rfl

@[simp] theorem State.setB_pc (v : Bool) (s : State) : (s.setB v).pc = s.pc := rfl
@[simp] theorem State.setB_sp (v : Bool) (s : State) : (s.setB v).sp = s.sp := rfl
@[simp] theorem State.setB_a (v : Bool) (s : State) : (s.setB v).a = s.a := rfl
@[simp] theorem State.setB_x (v : Bool) (s : State) : (s.setB v).x = s.x := rfl
@[simp] theorem State.setB_y (v : Bool) (s : State) : (s.setB v).y = s.y := rfl
@[simp] theorem State.setB_p (v : Bool) (s : State) : (s.setB v).p = { s.p with b := v } := rfl
@[simp] theorem State.setB_mem (v : Bool) (s : State) : (s.setB v).mem = s.mem := rfl
@[simp] theorem State.setB_runState (v : Bool) (s : State) : (s.setB v).runState = s.runState := rfl
@[simp] theorem State.setB_haltCause (v : Bool) (s : State) : (s.setB v).haltCause = s.haltCause := rfl
@[simp] theorem State.setB_faultOpcode (v : Bool) (s : State) : (s.setB v).faultOpcode = s.faultOpcode := rfl
@[simp] theorem State.setB_faultPc (v : Bool) (s : State) : (s.setB v).faultPc = s.faultPc := rfl
@[simp] theorem State.setB_phase (v : Bool) (s : State) : (s.setB v).phase = s.phase := rfl

@[simp] theorem State.setZ_pc (v : Bool) (s : State) : (s.setZ v).pc = s.pc := rfl
@[simp] theorem State.setZ_sp (v : Bool) (s : State) : (s.setZ v).sp = s.sp := rfl
@[simp] theorem State.setZ_a (v : Bool) (s : State) : (s.setZ v).a = s.a := rfl
@[simp] theorem State.setZ_x (v : Bool) (s : State) : (s.setZ v).x = s.x := rfl
@[simp] theorem State.setZ_y (v : Bool) (s : State) : (s.setZ v).y = s.y := rfl
@[simp] theorem State.setZ_p (v : Bool) (s : State) : (s.setZ v).p = { s.p with z := v } := rfl
@[simp] theorem State.setZ_mem (v : Bool) (s : State) : (s.setZ v).mem = s.mem := rfl
@[simp] theorem State.setZ_runState (v : Bool) (s : State) : (s.setZ v).runState = s.runState := rfl
@[simp] theorem State.setZ_haltCause (v : Bool) (s : State) : (s.setZ v).haltCause = s.haltCause := rfl
@[simp] theorem State.setZ_faultOpcode (v : Bool) (s : State) : (s.setZ v).faultOpcode = s.faultOpcode := rfl
@[simp] theorem State.setZ_faultPc (v : Bool) (s : State) : (s.setZ v).faultPc = s.faultPc := rfl
@[simp] theorem State.setZ_phase (v : Bool) (s : State) : (s.setZ v).phase = s.phase := rfl

@[simp] theorem State.setV_pc (v : Bool) (s : State) : (s.setV v).pc = s.pc := rfl
@[simp] theorem State.setV_sp (v : Bool) (s : State) : (s.setV v).sp = s.sp := rfl
@[simp] theorem State.setV_a (v : Bool) (s : State) : (s.setV v).a = s.a := rfl
@[simp] theorem State.setV_x (v : Bool) (s : State) : (s.setV v).x = s.x := rfl
@[simp] theorem State.setV_y (v : Bool) (s : State) : (s.setV v).y = s.y := rfl
@[simp] theorem State.setV_p (v : Bool) (s : State) : (s.setV v).p = { s.p with v := v } := rfl
@[simp] theorem State.setV_mem (v : Bool) (s : State) : (s.setV v).mem = s.mem := rfl
@[simp] theorem State.setV_runState (v : Bool) (s : State) : (s.setV v).runState = s.runState := rfl
@[simp] theorem State.setV_haltCause (v : Bool) (s : State) : (s.setV v).haltCause = s.haltCause := rfl
@[simp] theorem State.setV_faultOpcode (v : Bool) (s : State) : (s.setV v).faultOpcode = s.faultOpcode := rfl
@[simp] theorem State.setV_faultPc (v : Bool) (s : State) : (s.setV v).faultPc = s.faultPc := rfl
@[simp] theorem State.setV_phase (v : Bool) (s : State) : (s.setV v).phase = s.phase := rfl

@[simp] theorem State.setN_pc (v : Bool) (s : State) : (s.setN v).pc = s.pc := rfl
@[simp] theorem State.setN_sp (v : Bool) (s : State) : (s.setN v).sp = s.sp := rfl
@[simp] theorem State.setN_a (v : Bool) (s : State) : (s.setN v).a = s.a := rfl
@[simp] theorem State.setN_x (v : Bool) (s : State) : (s.setN v).x = s.x := rfl
@[simp] theorem State.setN_y (v : Bool) (s : State) : (s.setN v).y = s.y := rfl
@[simp] theorem State.setN_p (v : Bool) (s : State) : (s.setN v).p = { s.p with n := v } := rfl
@[simp] theorem State.setN_mem (v : Bool) (s : State) : (s.setN v).mem = s.mem := rfl
@[simp] theorem State.setN_runState (v : Bool) (s : State) : (s.setN v).runState = s.runState := rfl
@[simp] theorem State.setN_haltCause (v : Bool) (s : State) : (s.setN v).haltCause = s.haltCause := rfl
@[simp] theorem State.setN_faultOpcode (v : Bool) (s : State) : (s.setN v).faultOpcode = s.faultOpcode := rfl
@[simp] theorem State.setN_faultPc (v : Bool) (s : State) : (s.setN v).faultPc = s.faultPc := rfl
@[simp] theorem State.setN_phase (v : Bool) (s : State) : (s.setN v).phase = s.phase := rfl

@[simp] theorem State.setNZ_pc (v : Byte) (s : State) : (s.setNZ v).pc = s.pc := rfl
@[simp] theorem State.setNZ_sp (v : Byte) (s : State) : (s.setNZ v).sp = s.sp := rfl
@[simp] theorem State.setNZ_a (v : Byte) (s : State) : (s.setNZ v).a = s.a := rfl
@[simp] theorem State.setNZ_x (v : Byte) (s : State) : (s.setNZ v).x = s.x := rfl
@[simp] theorem State.setNZ_y (v : Byte) (s : State) : (s.setNZ v).y = s.y := rfl
@[simp] theorem State.setNZ_p (v : Byte) (s : State) :
    (s.setNZ v).p = { s.p with z := v == 0, n := v.getLsbD 7 } := rfl
@[simp] theorem State.setNZ_mem (v : Byte) (s : State) : (s.setNZ v).mem = s.mem := rfl
@[simp] theorem State.setNZ_runState (v : Byte) (s : State) : (s.setNZ v).runState = s.runState := rfl
@[simp] theorem State.setNZ_haltCause (v : Byte) (s : State) : (s.setNZ v).haltCause = s.haltCause := rfl
@[simp] theorem State.setNZ_faultOpcode (v : Byte) (s : State) :
    (s.setNZ v).faultOpcode = s.faultOpcode := rfl
@[simp] theorem State.setNZ_faultPc (v : Byte) (s : State) : (s.setNZ v).faultPc = s.faultPc := rfl
@[simp] theorem State.setNZ_phase (v : Byte) (s : State) : (s.setNZ v).phase = s.phase := rfl

@[simp] theorem State.write_pc (adr : Addr) (v : Byte) (s : State) : (s.write adr v).pc = s.pc := rfl
@[simp] theorem State.write_sp (adr : Addr) (v : Byte) (s : State) : (s.write adr v).sp = s.sp := rfl
@[simp] theorem State.write_a (adr : Addr) (v : Byte) (s : State) : (s.write adr v).a = s.a := rfl
@[simp] theorem State.write_x (adr : Addr) (v : Byte) (s : State) : (s.write adr v).x = s.x := rfl
@[simp] theorem State.write_y (adr : Addr) (v : Byte) (s : State) : (s.write adr v).y = s.y := rfl
@[simp] theorem State.write_p (adr : Addr) (v : Byte) (s : State) : (s.write adr v).p = s.p := rfl
@[simp] theorem State.write_mem (adr : Addr) (v : Byte) (s : State) :
    (s.write adr v).mem = Memory.write s.mem adr.toNat v := rfl
@[simp] theorem State.write_runState (adr : Addr) (v : Byte) (s : State) :
    (s.write adr v).runState = s.runState := rfl
@[simp] theorem State.write_haltCause (adr : Addr) (v : Byte) (s : State) :
    (s.write adr v).haltCause = s.haltCause := rfl
@[simp] theorem State.write_faultOpcode (adr : Addr) (v : Byte) (s : State) :
    (s.write adr v).faultOpcode = s.faultOpcode := rfl
@[simp] theorem State.write_faultPc (adr : Addr) (v : Byte) (s : State) :
    (s.write adr v).faultPc = s.faultPc := rfl
@[simp] theorem State.write_phase (adr : Addr) (v : Byte) (s : State) : (s.write adr v).phase = s.phase := rfl

@[simp] theorem State.advance_pc (k : Nat) (s : State) : (s.advance k).pc = s.after k := rfl
@[simp] theorem State.advance_sp (k : Nat) (s : State) : (s.advance k).sp = s.sp := rfl
@[simp] theorem State.advance_a (k : Nat) (s : State) : (s.advance k).a = s.a := rfl
@[simp] theorem State.advance_x (k : Nat) (s : State) : (s.advance k).x = s.x := rfl
@[simp] theorem State.advance_y (k : Nat) (s : State) : (s.advance k).y = s.y := rfl
@[simp] theorem State.advance_p (k : Nat) (s : State) : (s.advance k).p = s.p := rfl
@[simp] theorem State.advance_mem (k : Nat) (s : State) : (s.advance k).mem = s.mem := rfl
@[simp] theorem State.advance_runState (k : Nat) (s : State) : (s.advance k).runState = s.runState := rfl
@[simp] theorem State.advance_haltCause (k : Nat) (s : State) : (s.advance k).haltCause = s.haltCause := rfl
@[simp] theorem State.advance_faultOpcode (k : Nat) (s : State) :
    (s.advance k).faultOpcode = s.faultOpcode := rfl
@[simp] theorem State.advance_faultPc (k : Nat) (s : State) : (s.advance k).faultPc = s.faultPc := rfl
@[simp] theorem State.advance_phase (k : Nat) (s : State) : (s.advance k).phase = s.phase := rfl

@[simp] theorem State.push_pc (v : Byte) (s : State) : (s.push v).pc = s.pc := rfl
@[simp] theorem State.push_sp (v : Byte) (s : State) : (s.push v).sp = s.sp - 1 := rfl
@[simp] theorem State.push_a (v : Byte) (s : State) : (s.push v).a = s.a := rfl
@[simp] theorem State.push_x (v : Byte) (s : State) : (s.push v).x = s.x := rfl
@[simp] theorem State.push_y (v : Byte) (s : State) : (s.push v).y = s.y := rfl
@[simp] theorem State.push_p (v : Byte) (s : State) : (s.push v).p = s.p := rfl
@[simp] theorem State.push_mem (v : Byte) (s : State) :
    (s.push v).mem = Memory.write s.mem (stackAddr s.sp).toNat v := rfl
@[simp] theorem State.push_runState (v : Byte) (s : State) : (s.push v).runState = s.runState := rfl
@[simp] theorem State.push_haltCause (v : Byte) (s : State) : (s.push v).haltCause = s.haltCause := rfl
@[simp] theorem State.push_faultOpcode (v : Byte) (s : State) : (s.push v).faultOpcode = s.faultOpcode := rfl
@[simp] theorem State.push_faultPc (v : Byte) (s : State) : (s.push v).faultPc = s.faultPc := rfl
@[simp] theorem State.push_phase (v : Byte) (s : State) : (s.push v).phase = s.phase := rfl

@[simp] theorem State.pull_pc (s : State) : s.pull.pc = s.pc := rfl
@[simp] theorem State.pull_sp (s : State) : s.pull.sp = s.sp + 1 := rfl
@[simp] theorem State.pull_a (s : State) : s.pull.a = s.a := rfl
@[simp] theorem State.pull_x (s : State) : s.pull.x = s.x := rfl
@[simp] theorem State.pull_y (s : State) : s.pull.y = s.y := rfl
@[simp] theorem State.pull_p (s : State) : s.pull.p = s.p := rfl
@[simp] theorem State.pull_mem (s : State) : s.pull.mem = s.mem := rfl
@[simp] theorem State.pull_runState (s : State) : s.pull.runState = s.runState := rfl
@[simp] theorem State.pull_haltCause (s : State) : s.pull.haltCause = s.haltCause := rfl
@[simp] theorem State.pull_faultOpcode (s : State) : s.pull.faultOpcode = s.faultOpcode := rfl
@[simp] theorem State.pull_faultPc (s : State) : s.pull.faultPc = s.faultPc := rfl
@[simp] theorem State.pull_phase (s : State) : s.pull.phase = s.phase := rfl

@[simp] theorem State.raiseIllegalOpcode_pc (op : Byte) (adr : Addr) (s : State) :
    (s.raiseIllegalOpcode op adr).pc = s.pc := rfl
@[simp] theorem State.raiseIllegalOpcode_sp (op : Byte) (adr : Addr) (s : State) :
    (s.raiseIllegalOpcode op adr).sp = s.sp := rfl
@[simp] theorem State.raiseIllegalOpcode_a (op : Byte) (adr : Addr) (s : State) :
    (s.raiseIllegalOpcode op adr).a = s.a := rfl
@[simp] theorem State.raiseIllegalOpcode_x (op : Byte) (adr : Addr) (s : State) :
    (s.raiseIllegalOpcode op adr).x = s.x := rfl
@[simp] theorem State.raiseIllegalOpcode_y (op : Byte) (adr : Addr) (s : State) :
    (s.raiseIllegalOpcode op adr).y = s.y := rfl
@[simp] theorem State.raiseIllegalOpcode_p (op : Byte) (adr : Addr) (s : State) :
    (s.raiseIllegalOpcode op adr).p = s.p := rfl
@[simp] theorem State.raiseIllegalOpcode_mem (op : Byte) (adr : Addr) (s : State) :
    (s.raiseIllegalOpcode op adr).mem = s.mem := rfl
@[simp] theorem State.raiseIllegalOpcode_runState (op : Byte) (adr : Addr) (s : State) :
    (s.raiseIllegalOpcode op adr).runState = .halted := rfl
@[simp] theorem State.raiseIllegalOpcode_haltCause (op : Byte) (adr : Addr) (s : State) :
    (s.raiseIllegalOpcode op adr).haltCause = .illegal := rfl
@[simp] theorem State.raiseIllegalOpcode_faultOpcode (op : Byte) (adr : Addr) (s : State) :
    (s.raiseIllegalOpcode op adr).faultOpcode = op := rfl
@[simp] theorem State.raiseIllegalOpcode_faultPc (op : Byte) (adr : Addr) (s : State) :
    (s.raiseIllegalOpcode op adr).faultPc = adr := rfl
@[simp] theorem State.raiseIllegalOpcode_phase (op : Byte) (adr : Addr) (s : State) :
    (s.raiseIllegalOpcode op adr).phase = s.phase := rfl

@[simp] theorem State.haltByBreak_pc (s : State) : s.haltByBreak.pc = s.pc := rfl
@[simp] theorem State.haltByBreak_sp (s : State) : s.haltByBreak.sp = s.sp := rfl
@[simp] theorem State.haltByBreak_a (s : State) : s.haltByBreak.a = s.a := rfl
@[simp] theorem State.haltByBreak_x (s : State) : s.haltByBreak.x = s.x := rfl
@[simp] theorem State.haltByBreak_y (s : State) : s.haltByBreak.y = s.y := rfl
@[simp] theorem State.haltByBreak_p (s : State) : s.haltByBreak.p = { s.p with b := true } := rfl
@[simp] theorem State.haltByBreak_mem (s : State) : s.haltByBreak.mem = s.mem := rfl
@[simp] theorem State.haltByBreak_runState (s : State) : s.haltByBreak.runState = .halted := rfl
@[simp] theorem State.haltByBreak_haltCause (s : State) : s.haltByBreak.haltCause = .brk := rfl
@[simp] theorem State.haltByBreak_faultOpcode (s : State) : s.haltByBreak.faultOpcode = s.faultOpcode := rfl
@[simp] theorem State.haltByBreak_faultPc (s : State) : s.haltByBreak.faultPc = s.faultPc := rfl
@[simp] theorem State.haltByBreak_phase (s : State) : s.haltByBreak.phase = s.phase := rfl

@[simp] theorem State.beginStep_pc (s : State) : s.beginStep.pc = s.pc := rfl
@[simp] theorem State.beginStep_sp (s : State) : s.beginStep.sp = s.sp := rfl
@[simp] theorem State.beginStep_a (s : State) : s.beginStep.a = s.a := rfl
@[simp] theorem State.beginStep_x (s : State) : s.beginStep.x = s.x := rfl
@[simp] theorem State.beginStep_y (s : State) : s.beginStep.y = s.y := rfl
@[simp] theorem State.beginStep_p (s : State) : s.beginStep.p = s.p := rfl
@[simp] theorem State.beginStep_mem (s : State) : s.beginStep.mem = s.mem := rfl
@[simp] theorem State.beginStep_runState (s : State) : s.beginStep.runState = s.runState := rfl
@[simp] theorem State.beginStep_haltCause (s : State) : s.beginStep.haltCause = s.haltCause := rfl
@[simp] theorem State.beginStep_faultOpcode (s : State) : s.beginStep.faultOpcode = s.faultOpcode := rfl
@[simp] theorem State.beginStep_faultPc (s : State) : s.beginStep.faultPc = s.faultPc := rfl
@[simp] theorem State.beginStep_phase (s : State) : s.beginStep.phase = .stepping := rfl

@[simp] theorem State.makeRunning_pc (s : State) : s.makeRunning.pc = s.pc := rfl
@[simp] theorem State.makeRunning_sp (s : State) : s.makeRunning.sp = s.sp := rfl
@[simp] theorem State.makeRunning_a (s : State) : s.makeRunning.a = s.a := rfl
@[simp] theorem State.makeRunning_x (s : State) : s.makeRunning.x = s.x := rfl
@[simp] theorem State.makeRunning_y (s : State) : s.makeRunning.y = s.y := rfl
@[simp] theorem State.makeRunning_p (s : State) : s.makeRunning.p = s.p := rfl
@[simp] theorem State.makeRunning_mem (s : State) : s.makeRunning.mem = s.mem := rfl
@[simp] theorem State.makeRunning_runState (s : State) : s.makeRunning.runState = .running := rfl
@[simp] theorem State.makeRunning_haltCause (s : State) : s.makeRunning.haltCause = .none := rfl
@[simp] theorem State.makeRunning_faultOpcode (s : State) : s.makeRunning.faultOpcode = s.faultOpcode := rfl
@[simp] theorem State.makeRunning_faultPc (s : State) : s.makeRunning.faultPc = s.faultPc := rfl
@[simp] theorem State.makeRunning_phase (s : State) : s.makeRunning.phase = s.phase := rfl

/-! ## Reading is about memory alone -/

@[simp] theorem State.read_setPc (t : Addr) (s : State) (other : Addr) :
    (s.setPc t).read other = s.read other := rfl
@[simp] theorem State.read_setSp (v : Byte) (s : State) (other : Addr) :
    (s.setSp v).read other = s.read other := rfl
@[simp] theorem State.read_setA (v : Byte) (s : State) (other : Addr) :
    (s.setA v).read other = s.read other := rfl
@[simp] theorem State.read_setX (v : Byte) (s : State) (other : Addr) :
    (s.setX v).read other = s.read other := rfl
@[simp] theorem State.read_setY (v : Byte) (s : State) (other : Addr) :
    (s.setY v).read other = s.read other := rfl
@[simp] theorem State.read_setP (q : Status) (s : State) (other : Addr) :
    (s.setP q).read other = s.read other := rfl
@[simp] theorem State.read_setC (v : Bool) (s : State) (other : Addr) :
    (s.setC v).read other = s.read other := rfl
@[simp] theorem State.read_setI (v : Bool) (s : State) (other : Addr) :
    (s.setI v).read other = s.read other := rfl
@[simp] theorem State.read_setD (v : Bool) (s : State) (other : Addr) :
    (s.setD v).read other = s.read other := rfl
@[simp] theorem State.read_setB (v : Bool) (s : State) (other : Addr) :
    (s.setB v).read other = s.read other := rfl
@[simp] theorem State.read_setZ (v : Bool) (s : State) (other : Addr) :
    (s.setZ v).read other = s.read other := rfl
@[simp] theorem State.read_setV (v : Bool) (s : State) (other : Addr) :
    (s.setV v).read other = s.read other := rfl
@[simp] theorem State.read_setN (v : Bool) (s : State) (other : Addr) :
    (s.setN v).read other = s.read other := rfl
@[simp] theorem State.read_setNZ (v : Byte) (s : State) (other : Addr) :
    (s.setNZ v).read other = s.read other := rfl
@[simp] theorem State.read_advance (k : Nat) (s : State) (other : Addr) :
    (s.advance k).read other = s.read other := rfl
@[simp] theorem State.read_pull (s : State) (other : Addr) :
    s.pull.read other = s.read other := rfl
@[simp] theorem State.read_raiseIllegalOpcode (op : Byte) (adr : Addr) (s : State) (other : Addr) :
    (s.raiseIllegalOpcode op adr).read other = s.read other := rfl
@[simp] theorem State.read_haltByBreak (s : State) (other : Addr) :
    s.haltByBreak.read other = s.read other := rfl
@[simp] theorem State.read_beginStep (s : State) (other : Addr) :
    s.beginStep.read other = s.read other := rfl
@[simp] theorem State.read_makeRunning (s : State) (other : Addr) :
    s.makeRunning.read other = s.read other := rfl

/-- The address after `n` bytes depends on the program counter alone. -/
theorem State.after_eq {s t : State} (h : t.pc = s.pc) (n : Nat) : t.after n = s.after n := by
  simp [State.after, h]

end Sys2Proof.Machine
end

