-- ==== Sys2Proof/Laws/Exec.lean ====
section
/-! SUPPORT. What an instruction can do, said once: one lemma for each shared operation, then `exec_quiet` for every
instruction but BRK, and `exec_brk`. Later proofs cite these instead of unfolding `exec`. -/

namespace Sys2Proof.Machine

open Sys2Proof

/-- What no instruction but BRK writes (R28, R30, R34, R35), and that memory stays in its canonical form. -/
structure Quiet (s t : State) : Prop where
  u : t.p.u = s.p.u
  b : t.p.b = s.p.b
  runState : t.runState = s.runState
  haltCause : t.haltCause = s.haltCause
  faultOpcode : t.faultOpcode = s.faultOpcode
  faultPc : t.faultPc = s.faultPc
  phase : t.phase = s.phase
  memWf : s.mem.wf = true → t.mem.wf = true

/-- The result is a next state, reached quietly. -/
def Result.QuietFrom (s : State) (r : Result) : Prop := ∃ t, r = .next t ∧ Quiet s t

/-- A next state that differs from `s` in registers and quiet flags only. -/
theorem quiet_of_eq {s t : State} (hu : t.p.u = s.p.u) (hb : t.p.b = s.p.b)
    (ht : t = { s with p := t.p, pc := t.pc, sp := t.sp, a := t.a, x := t.x, y := t.y }) :
    Quiet s t := by
  rw [ht]; exact ⟨hu, hb, rfl, rfl, rfl, rfl, rfl, id⟩

theorem adc_quiet (m : Byte) (len : Nat) (s : State) :
    Result.QuietFrom s (adc Config.decimalPolicy m len s) := ⟨_, rfl, quiet_of_eq rfl rfl rfl⟩

theorem sbc_quiet (m : Byte) (len : Nat) (s : State) :
    Result.QuietFrom s (sbc Config.decimalPolicy m len s) := ⟨_, rfl, quiet_of_eq rfl rfl rfl⟩

theorem logicalResult_quiet (r : Byte) (len : Nat) (s : State) :
    Result.QuietFrom s (logicalResult r len s) := ⟨_, rfl, quiet_of_eq rfl rfl rfl⟩

theorem bitTest_quiet (m : Byte) (len : Nat) (s : State) :
    Result.QuietFrom s (bitTest m len s) := ⟨_, rfl, quiet_of_eq rfl rfl rfl⟩

theorem lda_quiet (m : Byte) (len : Nat) (s : State) :
    Result.QuietFrom s (lda m len s) := ⟨_, rfl, quiet_of_eq rfl rfl rfl⟩

theorem ldx_quiet (m : Byte) (len : Nat) (s : State) :
    Result.QuietFrom s (ldx m len s) := ⟨_, rfl, quiet_of_eq rfl rfl rfl⟩

theorem ldy_quiet (m : Byte) (len : Nat) (s : State) :
    Result.QuietFrom s (ldy m len s) := ⟨_, rfl, quiet_of_eq rfl rfl rfl⟩

theorem compareWith_quiet (reg m : Byte) (len : Nat) (s : State) :
    Result.QuietFrom s (compareWith reg m len s) := ⟨_, rfl, quiet_of_eq rfl rfl rfl⟩

theorem storeByte_quiet (v : Byte) (ea : Addr) (len : Nat) (s : State) :
    Result.QuietFrom s (storeByte v ea len s) :=
  ⟨_, rfl, rfl, rfl, rfl, rfl, rfl, rfl, rfl, Memory.wf_write ea v⟩

theorem branchIf_quiet (cond : Bool) (b1 : Byte) (s : State) :
    Result.QuietFrom s (branchIf cond b1 s) := by
  cases cond <;> exact ⟨_, rfl, quiet_of_eq rfl rfl rfl⟩

theorem jumpTo_quiet (t : Addr) (s : State) : Result.QuietFrom s (jumpTo t s) :=
  ⟨_, rfl, quiet_of_eq rfl rfl rfl⟩

theorem push_quiet (v : Byte) (s : State) : Quiet s (s.push v) :=
  ⟨rfl, rfl, rfl, rfl, rfl, rfl, rfl, Memory.wf_write (stackAddr s.sp) v⟩

theorem Quiet.trans {s t r : State} (h : Quiet s t) (k : Quiet t r) : Quiet s r :=
  ⟨k.u.trans h.u, k.b.trans h.b, k.runState.trans h.runState, k.haltCause.trans h.haltCause,
    k.faultOpcode.trans h.faultOpcode, k.faultPc.trans h.faultPc, k.phase.trans h.phase,
    fun w => k.memWf (h.memWf w)⟩

theorem callTo_quiet (t : Addr) (s : State) : Result.QuietFrom s (callTo t s) :=
  ⟨_, rfl, ((push_quiet _ s).trans (push_quiet _ _)).trans (quiet_of_eq rfl rfl rfl)⟩

theorem asl_quiet (l : Place) (len : Nat) (s : State) : Result.QuietFrom s (asl l len s) := by
  cases l with
  | acc => exact ⟨_, rfl, quiet_of_eq rfl rfl rfl⟩
  | addr ea => exact ⟨_, rfl, rfl, rfl, rfl, rfl, rfl, rfl, rfl, Memory.wf_write ea _⟩

theorem lsr_quiet (l : Place) (len : Nat) (s : State) : Result.QuietFrom s (lsr l len s) := by
  cases l with
  | acc => exact ⟨_, rfl, quiet_of_eq rfl rfl rfl⟩
  | addr ea => exact ⟨_, rfl, rfl, rfl, rfl, rfl, rfl, rfl, rfl, Memory.wf_write ea _⟩

theorem rol_quiet (l : Place) (len : Nat) (s : State) : Result.QuietFrom s (rol l len s) := by
  cases l with
  | acc => exact ⟨_, rfl, quiet_of_eq rfl rfl rfl⟩
  | addr ea => exact ⟨_, rfl, rfl, rfl, rfl, rfl, rfl, rfl, rfl, Memory.wf_write ea _⟩

theorem ror_quiet (l : Place) (len : Nat) (s : State) : Result.QuietFrom s (ror l len s) := by
  cases l with
  | acc => exact ⟨_, rfl, quiet_of_eq rfl rfl rfl⟩
  | addr ea => exact ⟨_, rfl, rfl, rfl, rfl, rfl, rfl, rfl, rfl, Memory.wf_write ea _⟩

theorem inc_quiet (l : Place) (len : Nat) (s : State) : Result.QuietFrom s (inc l len s) := by
  cases l with
  | acc => exact ⟨_, rfl, quiet_of_eq rfl rfl rfl⟩
  | addr ea => exact ⟨_, rfl, rfl, rfl, rfl, rfl, rfl, rfl, rfl, Memory.wf_write ea _⟩

theorem dec_quiet (l : Place) (len : Nat) (s : State) : Result.QuietFrom s (dec l len s) := by
  cases l with
  | acc => exact ⟨_, rfl, quiet_of_eq rfl rfl rfl⟩
  | addr ea => exact ⟨_, rfl, rfl, rfl, rfl, rfl, rfl, rfl, rfl, Memory.wf_write ea _⟩

/-- Every instruction but BRK answers a next state and writes none of the quiet state, whatever the state. -/
theorem exec_quiet (i : Instr) (s : State) (h : i ≠ .brk) : Result.QuietFrom s (exec i s) := by
  cases i with
  | brk => exact absurd rfl h
  | adcImm _ => exact adc_quiet _ _ s
  | adcZp _ => exact adc_quiet _ _ s
  | adcZpX _ => exact adc_quiet _ _ s
  | adcAbs _ _ => exact adc_quiet _ _ s
  | adcAbsX _ _ => exact adc_quiet _ _ s
  | adcAbsY _ _ => exact adc_quiet _ _ s
  | adcIndX _ => exact adc_quiet _ _ s
  | adcIndY _ => exact adc_quiet _ _ s
  | sbcImm _ => exact sbc_quiet _ _ s
  | sbcZp _ => exact sbc_quiet _ _ s
  | sbcZpX _ => exact sbc_quiet _ _ s
  | sbcAbs _ _ => exact sbc_quiet _ _ s
  | sbcAbsX _ _ => exact sbc_quiet _ _ s
  | sbcAbsY _ _ => exact sbc_quiet _ _ s
  | sbcIndX _ => exact sbc_quiet _ _ s
  | sbcIndY _ => exact sbc_quiet _ _ s
  | andImm _ => exact logicalResult_quiet _ _ s
  | andZp _ => exact logicalResult_quiet _ _ s
  | andZpX _ => exact logicalResult_quiet _ _ s
  | andAbs _ _ => exact logicalResult_quiet _ _ s
  | andAbsX _ _ => exact logicalResult_quiet _ _ s
  | andAbsY _ _ => exact logicalResult_quiet _ _ s
  | andIndX _ => exact logicalResult_quiet _ _ s
  | andIndY _ => exact logicalResult_quiet _ _ s
  | oraImm _ => exact logicalResult_quiet _ _ s
  | oraZp _ => exact logicalResult_quiet _ _ s
  | oraZpX _ => exact logicalResult_quiet _ _ s
  | oraAbs _ _ => exact logicalResult_quiet _ _ s
  | oraAbsX _ _ => exact logicalResult_quiet _ _ s
  | oraAbsY _ _ => exact logicalResult_quiet _ _ s
  | oraIndX _ => exact logicalResult_quiet _ _ s
  | oraIndY _ => exact logicalResult_quiet _ _ s
  | eorImm _ => exact logicalResult_quiet _ _ s
  | eorZp _ => exact logicalResult_quiet _ _ s
  | eorZpX _ => exact logicalResult_quiet _ _ s
  | eorAbs _ _ => exact logicalResult_quiet _ _ s
  | eorAbsX _ _ => exact logicalResult_quiet _ _ s
  | eorAbsY _ _ => exact logicalResult_quiet _ _ s
  | eorIndX _ => exact logicalResult_quiet _ _ s
  | eorIndY _ => exact logicalResult_quiet _ _ s
  | bitZp _ => exact bitTest_quiet _ _ s
  | bitAbs _ _ => exact bitTest_quiet _ _ s
  | ldaImm _ => exact lda_quiet _ _ s
  | ldaZp _ => exact lda_quiet _ _ s
  | ldaZpX _ => exact lda_quiet _ _ s
  | ldaAbs _ _ => exact lda_quiet _ _ s
  | ldaAbsX _ _ => exact lda_quiet _ _ s
  | ldaAbsY _ _ => exact lda_quiet _ _ s
  | ldaIndX _ => exact lda_quiet _ _ s
  | ldaIndY _ => exact lda_quiet _ _ s
  | ldxImm _ => exact ldx_quiet _ _ s
  | ldxZp _ => exact ldx_quiet _ _ s
  | ldxZpY _ => exact ldx_quiet _ _ s
  | ldxAbs _ _ => exact ldx_quiet _ _ s
  | ldxAbsY _ _ => exact ldx_quiet _ _ s
  | ldyImm _ => exact ldy_quiet _ _ s
  | ldyZp _ => exact ldy_quiet _ _ s
  | ldyZpX _ => exact ldy_quiet _ _ s
  | ldyAbs _ _ => exact ldy_quiet _ _ s
  | ldyAbsX _ _ => exact ldy_quiet _ _ s
  | staZp _ => exact storeByte_quiet _ _ _ s
  | staZpX _ => exact storeByte_quiet _ _ _ s
  | staAbs _ _ => exact storeByte_quiet _ _ _ s
  | staAbsX _ _ => exact storeByte_quiet _ _ _ s
  | staAbsY _ _ => exact storeByte_quiet _ _ _ s
  | staIndX _ => exact storeByte_quiet _ _ _ s
  | staIndY _ => exact storeByte_quiet _ _ _ s
  | stxZp _ => exact storeByte_quiet _ _ _ s
  | stxZpY _ => exact storeByte_quiet _ _ _ s
  | stxAbs _ _ => exact storeByte_quiet _ _ _ s
  | styZp _ => exact storeByte_quiet _ _ _ s
  | styZpX _ => exact storeByte_quiet _ _ _ s
  | styAbs _ _ => exact storeByte_quiet _ _ _ s
  | tax => exact ⟨_, rfl, quiet_of_eq rfl rfl rfl⟩
  | tay => exact ⟨_, rfl, quiet_of_eq rfl rfl rfl⟩
  | txa => exact ⟨_, rfl, quiet_of_eq rfl rfl rfl⟩
  | tya => exact ⟨_, rfl, quiet_of_eq rfl rfl rfl⟩
  | tsx => exact ⟨_, rfl, quiet_of_eq rfl rfl rfl⟩
  | txs => exact ⟨_, rfl, quiet_of_eq rfl rfl rfl⟩
  | bcc _ => exact branchIf_quiet _ _ s
  | bcs _ => exact branchIf_quiet _ _ s
  | beq _ => exact branchIf_quiet _ _ s
  | bne _ => exact branchIf_quiet _ _ s
  | bmi _ => exact branchIf_quiet _ _ s
  | bpl _ => exact branchIf_quiet _ _ s
  | bvc _ => exact branchIf_quiet _ _ s
  | bvs _ => exact branchIf_quiet _ _ s
  | pha => exact ⟨_, rfl, (push_quiet _ s).trans (quiet_of_eq rfl rfl rfl)⟩
  | php => exact ⟨_, rfl, (push_quiet _ s).trans (quiet_of_eq rfl rfl rfl)⟩
  | pla => exact ⟨_, rfl, quiet_of_eq rfl rfl rfl⟩
  | plp => exact ⟨_, rfl, quiet_of_eq rfl rfl rfl⟩
  | clc => exact ⟨_, rfl, quiet_of_eq rfl rfl rfl⟩
  | sec => exact ⟨_, rfl, quiet_of_eq rfl rfl rfl⟩
  | cli => exact ⟨_, rfl, quiet_of_eq rfl rfl rfl⟩
  | sei => exact ⟨_, rfl, quiet_of_eq rfl rfl rfl⟩
  | cld => exact ⟨_, rfl, quiet_of_eq rfl rfl rfl⟩
  | sed => exact ⟨_, rfl, quiet_of_eq rfl rfl rfl⟩
  | clv => exact ⟨_, rfl, quiet_of_eq rfl rfl rfl⟩
  | jmpAbs _ _ => exact jumpTo_quiet _ s
  | jmpInd _ _ => exact jumpTo_quiet _ s
  | jsr _ _ => exact callTo_quiet _ s
  | rts => exact ⟨_, rfl, quiet_of_eq rfl rfl rfl⟩
  | rti => exact ⟨_, rfl, quiet_of_eq rfl rfl rfl⟩
  | cmpImm _ => exact compareWith_quiet _ _ _ s
  | cmpZp _ => exact compareWith_quiet _ _ _ s
  | cmpZpX _ => exact compareWith_quiet _ _ _ s
  | cmpAbs _ _ => exact compareWith_quiet _ _ _ s
  | cmpAbsX _ _ => exact compareWith_quiet _ _ _ s
  | cmpAbsY _ _ => exact compareWith_quiet _ _ _ s
  | cmpIndX _ => exact compareWith_quiet _ _ _ s
  | cmpIndY _ => exact compareWith_quiet _ _ _ s
  | cpxImm _ => exact compareWith_quiet _ _ _ s
  | cpxZp _ => exact compareWith_quiet _ _ _ s
  | cpxAbs _ _ => exact compareWith_quiet _ _ _ s
  | cpyImm _ => exact compareWith_quiet _ _ _ s
  | cpyZp _ => exact compareWith_quiet _ _ _ s
  | cpyAbs _ _ => exact compareWith_quiet _ _ _ s
  | aslAcc => exact asl_quiet _ _ s
  | aslZp _ => exact asl_quiet _ _ s
  | aslZpX _ => exact asl_quiet _ _ s
  | aslAbs _ _ => exact asl_quiet _ _ s
  | aslAbsX _ _ => exact asl_quiet _ _ s
  | lsrAcc => exact lsr_quiet _ _ s
  | lsrZp _ => exact lsr_quiet _ _ s
  | lsrZpX _ => exact lsr_quiet _ _ s
  | lsrAbs _ _ => exact lsr_quiet _ _ s
  | lsrAbsX _ _ => exact lsr_quiet _ _ s
  | rolAcc => exact rol_quiet _ _ s
  | rolZp _ => exact rol_quiet _ _ s
  | rolZpX _ => exact rol_quiet _ _ s
  | rolAbs _ _ => exact rol_quiet _ _ s
  | rolAbsX _ _ => exact rol_quiet _ _ s
  | rorAcc => exact ror_quiet _ _ s
  | rorZp _ => exact ror_quiet _ _ s
  | rorZpX _ => exact ror_quiet _ _ s
  | rorAbs _ _ => exact ror_quiet _ _ s
  | rorAbsX _ _ => exact ror_quiet _ _ s
  | incZp _ => exact inc_quiet _ _ s
  | incZpX _ => exact inc_quiet _ _ s
  | incAbs _ _ => exact inc_quiet _ _ s
  | incAbsX _ _ => exact inc_quiet _ _ s
  | decZp _ => exact dec_quiet _ _ s
  | decZpX _ => exact dec_quiet _ _ s
  | decAbs _ _ => exact dec_quiet _ _ s
  | decAbsX _ _ => exact dec_quiet _ _ s
  | inx => exact ⟨_, rfl, quiet_of_eq rfl rfl rfl⟩
  | iny => exact ⟨_, rfl, quiet_of_eq rfl rfl rfl⟩
  | dex => exact ⟨_, rfl, quiet_of_eq rfl rfl rfl⟩
  | dey => exact ⟨_, rfl, quiet_of_eq rfl rfl rfl⟩
  | nop => exact ⟨_, rfl, quiet_of_eq rfl rfl rfl⟩

/-- BRK halts the unit, sets Break, and moves to the next byte (R221). -/
theorem exec_brk (s : State) : exec .brk s = .next (s.haltByBreak.advance 1) := rfl

/-- What a step does, said once: nothing more when Halted, the illegal-opcode step on an unassigned byte, else the
instruction the bytes at `pc` decode to (R75). -/
theorem step_eq (s : State) :
    step s = match s.runState with
      | .halted => .next s.beginStep
      | .running =>
        match s.fetchDecode with
        | .ok i => exec i s.beginStep
        | .error _ => .next (s.beginStep.raiseIllegalOpcode (s.read s.pc) s.pc) := rfl

theorem step_halted {s : State} (h : s.runState = .halted) : step s = .next s.beginStep := by
  rw [step_eq, h]

theorem step_of_decoded {s : State} {i : Instr} (h : s.runState = .running)
    (d : s.fetchDecode = .ok i) : step s = exec i s.beginStep := by
  rw [step_eq, h, d]

theorem step_of_rejected {s : State} {r : DecodeReject} (h : s.runState = .running)
    (d : s.fetchDecode = .error r) :
    step s = .next (s.beginStep.raiseIllegalOpcode (s.read s.pc) s.pc) := by
  rw [step_eq, h, d]

end Sys2Proof.Machine
end

