-- ==== Sys2Proof/Laws/Fetch.lean ====
section
/-! SUPPORT. What storing bytes at `pc` leaves, what the next fetch then reads, and how a run of several steps unfolds. -/

namespace Sys2Proof.Machine

open Sys2Proof

@[simp] theorem State.after_zero (s : State) : s.after 0 = s.pc := by simp [State.after]

/-- The three addresses that a fetch reads differ, also across the top of memory. -/
theorem State.after_ne (s : State) {i j : Nat} (hi : i < 3) (hj : j < 3) (h : i ≠ j) :
    s.after i ≠ s.after j := by
  intro e
  have := congrArg BitVec.toNat e
  have := s.pc.isLt
  simp [State.after] at *
  omega

/-- Storing bytes at `pc` changes memory only. -/
theorem State.storeAtPc_eq (s : State) (bs : List Byte) :
    s.storeAtPc bs = { s with mem := (s.storeAtPc bs).mem } := by
  have key : ∀ (l : List (Byte × Nat)) (t : State),
      l.foldl (fun t b => t.write (s.after b.2) b.1) t =
        { t with mem := (l.foldl (fun t b => t.write (s.after b.2) b.1) t).mem } := by
    intro l
    induction l with
    | nil => intro t; rfl
    | cons x l ih => intro t; rw [List.foldl_cons, ih]; rfl
  exact key _ s

theorem State.fetchDecode_storeAtPc_one {s : State} (h : s.mem.wf = true) (b0 : Byte) :
    (s.storeAtPc [b0]).fetchDecode = decode b0 (s.read (s.after 1)) (s.read (s.after 2)) := by
  have h10 := s.after_ne (i := 1) (j := 0) (by omega) (by omega) (by omega)
  have h20 := s.after_ne (i := 2) (j := 0) (by omega) (by omega) (by omega)
  show decode ((s.write (s.after 0) b0).read (s.after 0)) ((s.write (s.after 0) b0).read (s.after 1))
    ((s.write (s.after 0) b0).read (s.after 2)) = _
  rw [State.read_write_same _ _ h, State.read_write_other _ h h10, State.read_write_other _ h h20]

theorem State.fetchDecode_storeAtPc_two {s : State} (h : s.mem.wf = true) (b0 b1 : Byte) :
    (s.storeAtPc [b0, b1]).fetchDecode = decode b0 b1 (s.read (s.after 2)) := by
  have h0 := State.wf_write (s.after 0) b0 h
  have h01 := s.after_ne (i := 0) (j := 1) (by omega) (by omega) (by omega)
  have h21 := s.after_ne (i := 2) (j := 1) (by omega) (by omega) (by omega)
  have h20 := s.after_ne (i := 2) (j := 0) (by omega) (by omega) (by omega)
  show decode (((s.write (s.after 0) b0).write (s.after 1) b1).read (s.after 0))
    (((s.write (s.after 0) b0).write (s.after 1) b1).read (s.after 1))
    (((s.write (s.after 0) b0).write (s.after 1) b1).read (s.after 2)) = _
  rw [State.read_write_other _ h0 h01, State.read_write_same _ _ h, State.read_write_same _ _ h0,
    State.read_write_other _ h0 h21, State.read_write_other _ h h20]

theorem State.fetchDecode_storeAtPc_three {s : State} (h : s.mem.wf = true) (b0 b1 b2 : Byte) :
    (s.storeAtPc [b0, b1, b2]).fetchDecode = decode b0 b1 b2 := by
  have h0 := State.wf_write (s.after 0) b0 h
  have h1 := State.wf_write (s.after 1) b1 h0
  have h01 := s.after_ne (i := 0) (j := 1) (by omega) (by omega) (by omega)
  have h02 := s.after_ne (i := 0) (j := 2) (by omega) (by omega) (by omega)
  have h12 := s.after_ne (i := 1) (j := 2) (by omega) (by omega) (by omega)
  show decode ((((s.write (s.after 0) b0).write (s.after 1) b1).write (s.after 2) b2).read (s.after 0))
    ((((s.write (s.after 0) b0).write (s.after 1) b1).write (s.after 2) b2).read (s.after 1))
    ((((s.write (s.after 0) b0).write (s.after 1) b1).write (s.after 2) b2).read (s.after 2)) = _
  rw [State.read_write_other _ h1 h02, State.read_write_other _ h0 h01, State.read_write_same _ _ h,
    State.read_write_other _ h1 h12, State.read_write_same _ _ h0, State.read_write_same _ _ h1]

/-- A run of `k + 1` steps takes the first step, then `k`. -/
theorem run_succ_of_step {k : Nat} {s t : State} (h : step s = .next t) :
    core.run (k + 1) s = core.run k t := by
  have h' : core.step s = .next t := h
  have e : core.run (k + 1) s = core.run (k + 1) s := rfl
  conv at e => rhs; simp only [Host.Core.run, h']
  exact e

end Sys2Proof.Machine
end

