-- ==== Sys2Proof/Laws/Ops.lean ====
section
/-! SUPPORT. One lemma for each shared operation: the whole next state it leads to, as one record update. Later proofs cite
these instead of unfolding the operation. The adder stays folded. -/

namespace Sys2Proof.Machine

open Sys2Proof

/-! ## Bytes, addresses, flags -/

/-- Bit 7 of a byte is its sign bit. -/
theorem getLsbD_seven (v : Byte) : v.getLsbD 7 = v.msb := by simp [BitVec.msb, BitVec.getMsbD]

/-- The stack byte as a sum (R62). -/
theorem stackAddr_eq (sp : Byte) : stackAddr sp = 0x0100 + sp.setWidth 16 := by
  revert sp; decide +kernel

/-- Two stack pointers designate one stack byte only if they are equal. -/
theorem stackAddr_inj {sp sp' : Byte} (h : stackAddr sp = stackAddr sp') : sp = sp' := by
  have e := congrArg BitVec.toNat h
  have := sp.isLt
  have := sp'.isLt
  simp only [stackAddr_eq, BitVec.toNat_add, BitVec.toNat_setWidth] at e
  exact BitVec.eq_of_toNat_eq (by omega)

/-- Moving the stack pointer by one designates another stack byte. -/
theorem stackAddr_sub_one_ne (sp : Byte) : stackAddr (sp - 1) ≠ stackAddr sp := by
  intro h
  have e := congrArg BitVec.toNat (stackAddr_inj h)
  have := sp.isLt
  simp [BitVec.toNat_sub] at e
  omega

/-- `SetNZ` as one record update (R31). -/
theorem State.setNZ_eq (v : Byte) (s : State) :
    s.setNZ v = { s with p := { s.p with z := decide (v = 0), n := v.msb } } := by
  simp only [State.setNZ, getLsbD_seven]; rfl

/-- A read depends on memory only. -/
theorem State.read_congr {s t : State} (h : s.mem = t.mem) (adr : Addr) : s.read adr = t.read adr := by
  simp only [State.read, h]

/-! ## Arithmetic, logic, loads, compares -/

theorem adc_eq (m : Byte) (len : Nat) (s : State) :
    adc .binary m len s =
      let o := addCore s.a m s.p.c
      .next { s with
        a := o.r
        p := { s.p with c := o.cout, z := decide (o.r = 0), v := o.v, n := o.r.msb }
        pc := s.after len } := by
  simp only [adc, State.setNZ_eq]; rfl

theorem sbc_eq (m : Byte) (len : Nat) (s : State) :
    sbc .binary m len s =
      let o := addCore s.a (~~~m) s.p.c
      .next { s with
        a := o.r
        p := { s.p with c := o.cout, z := decide (o.r = 0), v := o.v, n := o.r.msb }
        pc := s.after len } := by
  simp only [sbc, State.setNZ_eq]; rfl

theorem logicalResult_eq (r : Byte) (len : Nat) (s : State) :
    logicalResult r len s = .next { s with
      a := r, p := { s.p with z := decide (r = 0), n := r.msb }, pc := s.after len } := by
  simp only [logicalResult, State.setNZ_eq]; rfl

theorem lda_eq (m : Byte) (len : Nat) (s : State) :
    lda m len s = .next { s with
      a := m, p := { s.p with z := decide (m = 0), n := m.msb }, pc := s.after len } := by
  simp only [lda, State.setNZ_eq]; rfl

theorem ldx_eq (m : Byte) (len : Nat) (s : State) :
    ldx m len s = .next { s with
      x := m, p := { s.p with z := decide (m = 0), n := m.msb }, pc := s.after len } := by
  simp only [ldx, State.setNZ_eq]; rfl

theorem ldy_eq (m : Byte) (len : Nat) (s : State) :
    ldy m len s = .next { s with
      y := m, p := { s.p with z := decide (m = 0), n := m.msb }, pc := s.after len } := by
  simp only [ldy, State.setNZ_eq]; rfl

theorem compareWith_eq (reg m : Byte) (len : Nat) (s : State) :
    compareWith reg m len s =
      let o := addCore reg (~~~m) true
      .next { s with
        p := { s.p with c := o.cout, z := decide (o.r = 0), n := o.r.msb }, pc := s.after len } := by
  simp only [compareWith, compareCore, State.setNZ_eq]; rfl

/-! ## Stores, the stack, calls -/

theorem storeByte_eq (v : Byte) (ea : Addr) (len : Nat) (s : State) :
    storeByte v ea len s = .next { s with mem := (s.write ea v).mem, pc := s.after len } := rfl

theorem State.push_eq (v : Byte) (s : State) :
    s.push v = { s with mem := (s.write (stackAddr s.sp) v).mem, sp := s.sp - 1 } := rfl

/-- What is read after a push (R63). -/
theorem State.read_push (v : Byte) {s : State} (h : s.mem.wf = true) (adr : Addr) :
    (s.push v).read adr = if adr = stackAddr s.sp then v else s.read adr :=
  State.read_write _ adr v h

@[simp] theorem State.wf_push (v : Byte) {s : State} (h : s.mem.wf = true) : (s.push v).mem.wf = true :=
  State.wf_write _ v h

theorem callTo_eq (target : Addr) (s : State) :
    callTo target s =
      let ret := s.after 3 - 1
      .next { s with
        mem := ((s.push (highByte ret)).push (lowByte ret)).mem, sp := s.sp - 1 - 1, pc := target } := rfl

/-! ## Read-modify-write on one location -/

/-- The descriptor of a read-write location (R90, R106). -/
def Place.operand : Place → Operand
  | .acc => .acc
  | .addr ea => .addr ea

/-- `Load` and `Store` of a location are those of its descriptor, which defines both (R104 to R106). -/
theorem Place.load_store_operand (l : Place) (v : Byte) (s : State) :
    l.operand.load s = some (l.load s) ∧ l.operand.store v s = some (l.store v s) := by
  cases l <;> exact ⟨rfl, rfl⟩

/-- What a store to a location leaves, beside `A` and memory: nothing else changes (R105). -/
theorem Place.store_eq (l : Place) (v : Byte) (s : State) :
    l.store v s = { s with a := (l.store v s).a, mem := (l.store v s).mem } := by
  cases l <;> rfl

/-- A location holds what was stored to it. -/
theorem Place.load_store (l : Place) (v : Byte) {s : State} (h : s.mem.wf = true) :
    l.load (l.store v s) = v := by
  cases l with
  | acc => rfl
  | addr ea => exact State.read_write_same ea v h

theorem Place.wf_store (l : Place) (v : Byte) {s : State} (h : s.mem.wf = true) :
    (l.store v s).mem.wf = true := by
  cases l with
  | acc => exact h
  | addr ea => exact State.wf_write ea v h

/-- The shape all six read-modify-write operations share: the result `r` stored, a Carry written, Zero and Negative of
`r`, and the next instruction (R200). -/
theorem storeResult_eq (l : Place) (r : Byte) (c : Bool) (len : Nat) (s : State) :
    ((l.store r (s.setC c)).setNZ r).advance len = { s with
      a := (l.store r s).a, mem := (l.store r s).mem
      p := { s.p with c := c, z := decide (r = 0), n := r.msb }, pc := s.after len } := by
  rw [State.setNZ_eq]; cases l <;> rfl

theorem asl_eq (l : Place) (len : Nat) (s : State) :
    asl l len s = .next (((l.store (l.load s <<< 1) (s.setC ((l.load s).getLsbD 7))).setNZ
      (l.load s <<< 1)).advance len) := rfl

theorem lsr_eq (l : Place) (len : Nat) (s : State) :
    lsr l len s = .next (((l.store (l.load s >>> 1) (s.setC ((l.load s).getLsbD 0))).setNZ
      (l.load s >>> 1)).advance len) := rfl

theorem rol_eq (l : Place) (len : Nat) (s : State) :
    rol l len s = .next (((l.store (l.load s <<< 1 + carryByte s.p.c)
      (s.setC ((l.load s).getLsbD 7))).setNZ (l.load s <<< 1 + carryByte s.p.c)).advance len) := rfl

theorem ror_eq (l : Place) (len : Nat) (s : State) :
    ror l len s = .next (((l.store (l.load s >>> 1 + carryByte s.p.c <<< 7)
      (s.setC ((l.load s).getLsbD 0))).setNZ (l.load s >>> 1 + carryByte s.p.c <<< 7)).advance len) := rfl

theorem inc_eq (l : Place) (len : Nat) (s : State) :
    inc l len s = .next (((l.store (l.load s + 1) (s.setC s.p.c)).setNZ (l.load s + 1)).advance len) := by
  cases l <;> rfl

theorem dec_eq (l : Place) (len : Nat) (s : State) :
    dec l len s = .next (((l.store (l.load s - 1) (s.setC s.p.c)).setNZ (l.load s - 1)).advance len) := by
  cases l <;> rfl

end Sys2Proof.Machine
end

