-- ==== Sys2Proof/Laws/Parameter.lean ====
section
/-! SUPPORT. What the open parameter changes: ADC and SBC under each policy, and all that an instruction or a step under a
policy can do beside what it does at the default. -/

namespace Sys2Proof.Machine

open Sys2Proof

/-- ADC under `refuse` (R112). -/
theorem adc_refuse (m : Byte) (len : Nat) (s : State) :
    adc .refuse m len s = if s.p.d = true then .refused .decimalMode else adc .binary m len s := by
  cases h : s.p.d <;> simp [adc, h]

/-- SBC under `refuse` (R112). -/
theorem sbc_refuse (m : Byte) (len : Nat) (s : State) :
    sbc .refuse m len s = if s.p.d = true then .refused .decimalMode else sbc .binary m len s := by
  cases h : s.p.d <;> simp [sbc, h]

/-- ADC under any policy is ADC at the default, or the refusal. -/
theorem adc_policy_cases (policy : DecimalPolicy) (m : Byte) (len : Nat) (s : State) :
    adc policy m len s = adc Config.decimalPolicy m len s ∨ adc policy m len s = .refused .decimalMode := by
  cases policy with
  | binary => exact .inl rfl
  | refuse => 
    rw [adc_refuse]
    cases s.p.d with
    | false => exact .inl rfl
    | true => exact .inr rfl

/-- SBC under any policy is SBC at the default, or the refusal. -/
theorem sbc_policy_cases (policy : DecimalPolicy) (m : Byte) (len : Nat) (s : State) :
    sbc policy m len s = sbc Config.decimalPolicy m len s ∨ sbc policy m len s = .refused .decimalMode := by
  cases policy with
  | binary => exact .inl rfl
  | refuse => 
    rw [sbc_refuse]
    cases s.p.d with
    | false => exact .inl rfl
    | true => exact .inr rfl

/-- An instruction under any policy is the instruction at the default, or the refusal. -/
theorem execUnder_cases (policy : DecimalPolicy) (i : Instr) (s : State) :
    execUnder policy i s = exec i s ∨ execUnder policy i s = .refused .decimalMode := by
  cases i with
  | adcImm _ => exact adc_policy_cases policy _ _ s
  | adcZp _ => exact adc_policy_cases policy _ _ s
  | adcZpX _ => exact adc_policy_cases policy _ _ s
  | adcAbs _ _ => exact adc_policy_cases policy _ _ s
  | adcAbsX _ _ => exact adc_policy_cases policy _ _ s
  | adcAbsY _ _ => exact adc_policy_cases policy _ _ s
  | adcIndX _ => exact adc_policy_cases policy _ _ s
  | adcIndY _ => exact adc_policy_cases policy _ _ s
  | sbcImm _ => exact sbc_policy_cases policy _ _ s
  | sbcZp _ => exact sbc_policy_cases policy _ _ s
  | sbcZpX _ => exact sbc_policy_cases policy _ _ s
  | sbcAbs _ _ => exact sbc_policy_cases policy _ _ s
  | sbcAbsX _ _ => exact sbc_policy_cases policy _ _ s
  | sbcAbsY _ _ => exact sbc_policy_cases policy _ _ s
  | sbcIndX _ => exact sbc_policy_cases policy _ _ s
  | sbcIndY _ => exact sbc_policy_cases policy _ _ s
  | _ => exact .inl rfl

/-- A next state under any policy is the one at the default. -/
theorem exec_of_execUnder {policy : DecimalPolicy} {i : Instr} {s t : State}
    (h : execUnder policy i s = .next t) : exec i s = .next t := by
  rcases execUnder_cases policy i s with e | e
  · rw [← e, h]
  · rw [e] at h; cases h

/-- Two executions that agree on the state at which the step runs its instruction give the same step. -/
theorem stepWith_congr {f g : Instr → State → Result} {s : State}
    (h : ∀ i, s.fetchDecode = .ok i → f i s.beginStep = g i s.beginStep) : stepWith f s = stepWith g s := by
  have d : s.beginStep.fetchDecode = s.fetchDecode := rfl
  simp only [stepWith]
  cases s.beginStep.runState with
  | halted => rfl
  | running =>
    rw [d]
    cases e : s.fetchDecode with
    | error r => rfl
    | ok i => exact h i e

/-- A step under a policy, said once (R75). -/
theorem stepUnder_eq (policy : DecimalPolicy) (s : State) :
    stepUnder policy s = match s.runState with
      | .halted => .next s.beginStep
      | .running =>
        match s.fetchDecode with
        | .ok i => execUnder policy i s.beginStep
        | .error _ => .next (s.beginStep.raiseIllegalOpcode (s.read s.pc) s.pc) := rfl

end Sys2Proof.Machine
end

