-- ==== Sys2Proof/Laws/PerInstr.lean ====
section
/-! SUPPORT. Statements about every instruction as syntax, with one lemma for each constructor: its form passes the checks
of WellFormed.lean, and the bytes the encoder gives are decoded back to it. -/

namespace Sys2Proof.Laws

open Sys2Proof

/-- The instruction passes the checks of WellFormed.lean, and its encoding is as long as its mode says (R72). -/
def WellFormed.Statement (i : Instr) : Prop :=
  i.wellFormed = true ∧ (encode i).length = i.length

/-- The decoder reads the instruction back from the bytes of the encoder, and leaves what follows them (R70, R74). -/
def RoundTrip.Statement (i : Instr) : Prop :=
  ∀ rest : List Byte, decodeBytes (encode i ++ rest) = .ok (i, rest)

theorem WellFormed.adcImm (b1 : Byte) : WellFormed.Statement (.adcImm b1) := ⟨rfl, rfl⟩
theorem WellFormed.adcZp (b1 : Byte) : WellFormed.Statement (.adcZp b1) := ⟨rfl, rfl⟩
theorem WellFormed.adcZpX (b1 : Byte) : WellFormed.Statement (.adcZpX b1) := ⟨rfl, rfl⟩
theorem WellFormed.adcAbs (b1 b2 : Byte) : WellFormed.Statement (.adcAbs b1 b2) := ⟨rfl, rfl⟩
theorem WellFormed.adcAbsX (b1 b2 : Byte) : WellFormed.Statement (.adcAbsX b1 b2) := ⟨rfl, rfl⟩
theorem WellFormed.adcAbsY (b1 b2 : Byte) : WellFormed.Statement (.adcAbsY b1 b2) := ⟨rfl, rfl⟩
theorem WellFormed.adcIndX (b1 : Byte) : WellFormed.Statement (.adcIndX b1) := ⟨rfl, rfl⟩
theorem WellFormed.adcIndY (b1 : Byte) : WellFormed.Statement (.adcIndY b1) := ⟨rfl, rfl⟩
theorem WellFormed.sbcImm (b1 : Byte) : WellFormed.Statement (.sbcImm b1) := ⟨rfl, rfl⟩
theorem WellFormed.sbcZp (b1 : Byte) : WellFormed.Statement (.sbcZp b1) := ⟨rfl, rfl⟩
theorem WellFormed.sbcZpX (b1 : Byte) : WellFormed.Statement (.sbcZpX b1) := ⟨rfl, rfl⟩
theorem WellFormed.sbcAbs (b1 b2 : Byte) : WellFormed.Statement (.sbcAbs b1 b2) := ⟨rfl, rfl⟩
theorem WellFormed.sbcAbsX (b1 b2 : Byte) : WellFormed.Statement (.sbcAbsX b1 b2) := ⟨rfl, rfl⟩
theorem WellFormed.sbcAbsY (b1 b2 : Byte) : WellFormed.Statement (.sbcAbsY b1 b2) := ⟨rfl, rfl⟩
theorem WellFormed.sbcIndX (b1 : Byte) : WellFormed.Statement (.sbcIndX b1) := ⟨rfl, rfl⟩
theorem WellFormed.sbcIndY (b1 : Byte) : WellFormed.Statement (.sbcIndY b1) := ⟨rfl, rfl⟩
theorem WellFormed.andImm (b1 : Byte) : WellFormed.Statement (.andImm b1) := ⟨rfl, rfl⟩
theorem WellFormed.andZp (b1 : Byte) : WellFormed.Statement (.andZp b1) := ⟨rfl, rfl⟩
theorem WellFormed.andZpX (b1 : Byte) : WellFormed.Statement (.andZpX b1) := ⟨rfl, rfl⟩
theorem WellFormed.andAbs (b1 b2 : Byte) : WellFormed.Statement (.andAbs b1 b2) := ⟨rfl, rfl⟩
theorem WellFormed.andAbsX (b1 b2 : Byte) : WellFormed.Statement (.andAbsX b1 b2) := ⟨rfl, rfl⟩
theorem WellFormed.andAbsY (b1 b2 : Byte) : WellFormed.Statement (.andAbsY b1 b2) := ⟨rfl, rfl⟩
theorem WellFormed.andIndX (b1 : Byte) : WellFormed.Statement (.andIndX b1) := ⟨rfl, rfl⟩
theorem WellFormed.andIndY (b1 : Byte) : WellFormed.Statement (.andIndY b1) := ⟨rfl, rfl⟩
theorem WellFormed.oraImm (b1 : Byte) : WellFormed.Statement (.oraImm b1) := ⟨rfl, rfl⟩
theorem WellFormed.oraZp (b1 : Byte) : WellFormed.Statement (.oraZp b1) := ⟨rfl, rfl⟩
theorem WellFormed.oraZpX (b1 : Byte) : WellFormed.Statement (.oraZpX b1) := ⟨rfl, rfl⟩
theorem WellFormed.oraAbs (b1 b2 : Byte) : WellFormed.Statement (.oraAbs b1 b2) := ⟨rfl, rfl⟩
theorem WellFormed.oraAbsX (b1 b2 : Byte) : WellFormed.Statement (.oraAbsX b1 b2) := ⟨rfl, rfl⟩
theorem WellFormed.oraAbsY (b1 b2 : Byte) : WellFormed.Statement (.oraAbsY b1 b2) := ⟨rfl, rfl⟩
theorem WellFormed.oraIndX (b1 : Byte) : WellFormed.Statement (.oraIndX b1) := ⟨rfl, rfl⟩
theorem WellFormed.oraIndY (b1 : Byte) : WellFormed.Statement (.oraIndY b1) := ⟨rfl, rfl⟩
theorem WellFormed.eorImm (b1 : Byte) : WellFormed.Statement (.eorImm b1) := ⟨rfl, rfl⟩
theorem WellFormed.eorZp (b1 : Byte) : WellFormed.Statement (.eorZp b1) := ⟨rfl, rfl⟩
theorem WellFormed.eorZpX (b1 : Byte) : WellFormed.Statement (.eorZpX b1) := ⟨rfl, rfl⟩
theorem WellFormed.eorAbs (b1 b2 : Byte) : WellFormed.Statement (.eorAbs b1 b2) := ⟨rfl, rfl⟩
theorem WellFormed.eorAbsX (b1 b2 : Byte) : WellFormed.Statement (.eorAbsX b1 b2) := ⟨rfl, rfl⟩
theorem WellFormed.eorAbsY (b1 b2 : Byte) : WellFormed.Statement (.eorAbsY b1 b2) := ⟨rfl, rfl⟩
theorem WellFormed.eorIndX (b1 : Byte) : WellFormed.Statement (.eorIndX b1) := ⟨rfl, rfl⟩
theorem WellFormed.eorIndY (b1 : Byte) : WellFormed.Statement (.eorIndY b1) := ⟨rfl, rfl⟩
theorem WellFormed.bitZp (b1 : Byte) : WellFormed.Statement (.bitZp b1) := ⟨rfl, rfl⟩
theorem WellFormed.bitAbs (b1 b2 : Byte) : WellFormed.Statement (.bitAbs b1 b2) := ⟨rfl, rfl⟩
theorem WellFormed.ldaImm (b1 : Byte) : WellFormed.Statement (.ldaImm b1) := ⟨rfl, rfl⟩
theorem WellFormed.ldaZp (b1 : Byte) : WellFormed.Statement (.ldaZp b1) := ⟨rfl, rfl⟩
theorem WellFormed.ldaZpX (b1 : Byte) : WellFormed.Statement (.ldaZpX b1) := ⟨rfl, rfl⟩
theorem WellFormed.ldaAbs (b1 b2 : Byte) : WellFormed.Statement (.ldaAbs b1 b2) := ⟨rfl, rfl⟩
theorem WellFormed.ldaAbsX (b1 b2 : Byte) : WellFormed.Statement (.ldaAbsX b1 b2) := ⟨rfl, rfl⟩
theorem WellFormed.ldaAbsY (b1 b2 : Byte) : WellFormed.Statement (.ldaAbsY b1 b2) := ⟨rfl, rfl⟩
theorem WellFormed.ldaIndX (b1 : Byte) : WellFormed.Statement (.ldaIndX b1) := ⟨rfl, rfl⟩
theorem WellFormed.ldaIndY (b1 : Byte) : WellFormed.Statement (.ldaIndY b1) := ⟨rfl, rfl⟩
theorem WellFormed.ldxImm (b1 : Byte) : WellFormed.Statement (.ldxImm b1) := ⟨rfl, rfl⟩
theorem WellFormed.ldxZp (b1 : Byte) : WellFormed.Statement (.ldxZp b1) := ⟨rfl, rfl⟩
theorem WellFormed.ldxZpY (b1 : Byte) : WellFormed.Statement (.ldxZpY b1) := ⟨rfl, rfl⟩
theorem WellFormed.ldxAbs (b1 b2 : Byte) : WellFormed.Statement (.ldxAbs b1 b2) := ⟨rfl, rfl⟩
theorem WellFormed.ldxAbsY (b1 b2 : Byte) : WellFormed.Statement (.ldxAbsY b1 b2) := ⟨rfl, rfl⟩
theorem WellFormed.ldyImm (b1 : Byte) : WellFormed.Statement (.ldyImm b1) := ⟨rfl, rfl⟩
theorem WellFormed.ldyZp (b1 : Byte) : WellFormed.Statement (.ldyZp b1) := ⟨rfl, rfl⟩
theorem WellFormed.ldyZpX (b1 : Byte) : WellFormed.Statement (.ldyZpX b1) := ⟨rfl, rfl⟩
theorem WellFormed.ldyAbs (b1 b2 : Byte) : WellFormed.Statement (.ldyAbs b1 b2) := ⟨rfl, rfl⟩
theorem WellFormed.ldyAbsX (b1 b2 : Byte) : WellFormed.Statement (.ldyAbsX b1 b2) := ⟨rfl, rfl⟩
theorem WellFormed.staZp (b1 : Byte) : WellFormed.Statement (.staZp b1) := ⟨rfl, rfl⟩
theorem WellFormed.staZpX (b1 : Byte) : WellFormed.Statement (.staZpX b1) := ⟨rfl, rfl⟩
theorem WellFormed.staAbs (b1 b2 : Byte) : WellFormed.Statement (.staAbs b1 b2) := ⟨rfl, rfl⟩
theorem WellFormed.staAbsX (b1 b2 : Byte) : WellFormed.Statement (.staAbsX b1 b2) := ⟨rfl, rfl⟩
theorem WellFormed.staAbsY (b1 b2 : Byte) : WellFormed.Statement (.staAbsY b1 b2) := ⟨rfl, rfl⟩
theorem WellFormed.staIndX (b1 : Byte) : WellFormed.Statement (.staIndX b1) := ⟨rfl, rfl⟩
theorem WellFormed.staIndY (b1 : Byte) : WellFormed.Statement (.staIndY b1) := ⟨rfl, rfl⟩
theorem WellFormed.stxZp (b1 : Byte) : WellFormed.Statement (.stxZp b1) := ⟨rfl, rfl⟩
theorem WellFormed.stxZpY (b1 : Byte) : WellFormed.Statement (.stxZpY b1) := ⟨rfl, rfl⟩
theorem WellFormed.stxAbs (b1 b2 : Byte) : WellFormed.Statement (.stxAbs b1 b2) := ⟨rfl, rfl⟩
theorem WellFormed.styZp (b1 : Byte) : WellFormed.Statement (.styZp b1) := ⟨rfl, rfl⟩
theorem WellFormed.styZpX (b1 : Byte) : WellFormed.Statement (.styZpX b1) := ⟨rfl, rfl⟩
theorem WellFormed.styAbs (b1 b2 : Byte) : WellFormed.Statement (.styAbs b1 b2) := ⟨rfl, rfl⟩
theorem WellFormed.tax : WellFormed.Statement (.tax) := ⟨rfl, rfl⟩
theorem WellFormed.tay : WellFormed.Statement (.tay) := ⟨rfl, rfl⟩
theorem WellFormed.txa : WellFormed.Statement (.txa) := ⟨rfl, rfl⟩
theorem WellFormed.tya : WellFormed.Statement (.tya) := ⟨rfl, rfl⟩
theorem WellFormed.tsx : WellFormed.Statement (.tsx) := ⟨rfl, rfl⟩
theorem WellFormed.txs : WellFormed.Statement (.txs) := ⟨rfl, rfl⟩
theorem WellFormed.bcc (b1 : Byte) : WellFormed.Statement (.bcc b1) := ⟨rfl, rfl⟩
theorem WellFormed.bcs (b1 : Byte) : WellFormed.Statement (.bcs b1) := ⟨rfl, rfl⟩
theorem WellFormed.beq (b1 : Byte) : WellFormed.Statement (.beq b1) := ⟨rfl, rfl⟩
theorem WellFormed.bne (b1 : Byte) : WellFormed.Statement (.bne b1) := ⟨rfl, rfl⟩
theorem WellFormed.bmi (b1 : Byte) : WellFormed.Statement (.bmi b1) := ⟨rfl, rfl⟩
theorem WellFormed.bpl (b1 : Byte) : WellFormed.Statement (.bpl b1) := ⟨rfl, rfl⟩
theorem WellFormed.bvc (b1 : Byte) : WellFormed.Statement (.bvc b1) := ⟨rfl, rfl⟩
theorem WellFormed.bvs (b1 : Byte) : WellFormed.Statement (.bvs b1) := ⟨rfl, rfl⟩
theorem WellFormed.pha : WellFormed.Statement (.pha) := ⟨rfl, rfl⟩
theorem WellFormed.php : WellFormed.Statement (.php) := ⟨rfl, rfl⟩
theorem WellFormed.pla : WellFormed.Statement (.pla) := ⟨rfl, rfl⟩
theorem WellFormed.plp : WellFormed.Statement (.plp) := ⟨rfl, rfl⟩
theorem WellFormed.clc : WellFormed.Statement (.clc) := ⟨rfl, rfl⟩
theorem WellFormed.sec : WellFormed.Statement (.sec) := ⟨rfl, rfl⟩
theorem WellFormed.cli : WellFormed.Statement (.cli) := ⟨rfl, rfl⟩
theorem WellFormed.sei : WellFormed.Statement (.sei) := ⟨rfl, rfl⟩
theorem WellFormed.cld : WellFormed.Statement (.cld) := ⟨rfl, rfl⟩
theorem WellFormed.sed : WellFormed.Statement (.sed) := ⟨rfl, rfl⟩
theorem WellFormed.clv : WellFormed.Statement (.clv) := ⟨rfl, rfl⟩
theorem WellFormed.jmpAbs (b1 b2 : Byte) : WellFormed.Statement (.jmpAbs b1 b2) := ⟨rfl, rfl⟩
theorem WellFormed.jmpInd (b1 b2 : Byte) : WellFormed.Statement (.jmpInd b1 b2) := ⟨rfl, rfl⟩
theorem WellFormed.jsr (b1 b2 : Byte) : WellFormed.Statement (.jsr b1 b2) := ⟨rfl, rfl⟩
theorem WellFormed.rts : WellFormed.Statement (.rts) := ⟨rfl, rfl⟩
theorem WellFormed.rti : WellFormed.Statement (.rti) := ⟨rfl, rfl⟩
theorem WellFormed.cmpImm (b1 : Byte) : WellFormed.Statement (.cmpImm b1) := ⟨rfl, rfl⟩
theorem WellFormed.cmpZp (b1 : Byte) : WellFormed.Statement (.cmpZp b1) := ⟨rfl, rfl⟩
theorem WellFormed.cmpZpX (b1 : Byte) : WellFormed.Statement (.cmpZpX b1) := ⟨rfl, rfl⟩
theorem WellFormed.cmpAbs (b1 b2 : Byte) : WellFormed.Statement (.cmpAbs b1 b2) := ⟨rfl, rfl⟩
theorem WellFormed.cmpAbsX (b1 b2 : Byte) : WellFormed.Statement (.cmpAbsX b1 b2) := ⟨rfl, rfl⟩
theorem WellFormed.cmpAbsY (b1 b2 : Byte) : WellFormed.Statement (.cmpAbsY b1 b2) := ⟨rfl, rfl⟩
theorem WellFormed.cmpIndX (b1 : Byte) : WellFormed.Statement (.cmpIndX b1) := ⟨rfl, rfl⟩
theorem WellFormed.cmpIndY (b1 : Byte) : WellFormed.Statement (.cmpIndY b1) := ⟨rfl, rfl⟩
theorem WellFormed.cpxImm (b1 : Byte) : WellFormed.Statement (.cpxImm b1) := ⟨rfl, rfl⟩
theorem WellFormed.cpxZp (b1 : Byte) : WellFormed.Statement (.cpxZp b1) := ⟨rfl, rfl⟩
theorem WellFormed.cpxAbs (b1 b2 : Byte) : WellFormed.Statement (.cpxAbs b1 b2) := ⟨rfl, rfl⟩
theorem WellFormed.cpyImm (b1 : Byte) : WellFormed.Statement (.cpyImm b1) := ⟨rfl, rfl⟩
theorem WellFormed.cpyZp (b1 : Byte) : WellFormed.Statement (.cpyZp b1) := ⟨rfl, rfl⟩
theorem WellFormed.cpyAbs (b1 b2 : Byte) : WellFormed.Statement (.cpyAbs b1 b2) := ⟨rfl, rfl⟩
theorem WellFormed.aslAcc : WellFormed.Statement (.aslAcc) := ⟨rfl, rfl⟩
theorem WellFormed.aslZp (b1 : Byte) : WellFormed.Statement (.aslZp b1) := ⟨rfl, rfl⟩
theorem WellFormed.aslZpX (b1 : Byte) : WellFormed.Statement (.aslZpX b1) := ⟨rfl, rfl⟩
theorem WellFormed.aslAbs (b1 b2 : Byte) : WellFormed.Statement (.aslAbs b1 b2) := ⟨rfl, rfl⟩
theorem WellFormed.aslAbsX (b1 b2 : Byte) : WellFormed.Statement (.aslAbsX b1 b2) := ⟨rfl, rfl⟩
theorem WellFormed.lsrAcc : WellFormed.Statement (.lsrAcc) := ⟨rfl, rfl⟩
theorem WellFormed.lsrZp (b1 : Byte) : WellFormed.Statement (.lsrZp b1) := ⟨rfl, rfl⟩
theorem WellFormed.lsrZpX (b1 : Byte) : WellFormed.Statement (.lsrZpX b1) := ⟨rfl, rfl⟩
theorem WellFormed.lsrAbs (b1 b2 : Byte) : WellFormed.Statement (.lsrAbs b1 b2) := ⟨rfl, rfl⟩
theorem WellFormed.lsrAbsX (b1 b2 : Byte) : WellFormed.Statement (.lsrAbsX b1 b2) := ⟨rfl, rfl⟩
theorem WellFormed.rolAcc : WellFormed.Statement (.rolAcc) := ⟨rfl, rfl⟩
theorem WellFormed.rolZp (b1 : Byte) : WellFormed.Statement (.rolZp b1) := ⟨rfl, rfl⟩
theorem WellFormed.rolZpX (b1 : Byte) : WellFormed.Statement (.rolZpX b1) := ⟨rfl, rfl⟩
theorem WellFormed.rolAbs (b1 b2 : Byte) : WellFormed.Statement (.rolAbs b1 b2) := ⟨rfl, rfl⟩
theorem WellFormed.rolAbsX (b1 b2 : Byte) : WellFormed.Statement (.rolAbsX b1 b2) := ⟨rfl, rfl⟩
theorem WellFormed.rorAcc : WellFormed.Statement (.rorAcc) := ⟨rfl, rfl⟩
theorem WellFormed.rorZp (b1 : Byte) : WellFormed.Statement (.rorZp b1) := ⟨rfl, rfl⟩
theorem WellFormed.rorZpX (b1 : Byte) : WellFormed.Statement (.rorZpX b1) := ⟨rfl, rfl⟩
theorem WellFormed.rorAbs (b1 b2 : Byte) : WellFormed.Statement (.rorAbs b1 b2) := ⟨rfl, rfl⟩
theorem WellFormed.rorAbsX (b1 b2 : Byte) : WellFormed.Statement (.rorAbsX b1 b2) := ⟨rfl, rfl⟩
theorem WellFormed.incZp (b1 : Byte) : WellFormed.Statement (.incZp b1) := ⟨rfl, rfl⟩
theorem WellFormed.incZpX (b1 : Byte) : WellFormed.Statement (.incZpX b1) := ⟨rfl, rfl⟩
theorem WellFormed.incAbs (b1 b2 : Byte) : WellFormed.Statement (.incAbs b1 b2) := ⟨rfl, rfl⟩
theorem WellFormed.incAbsX (b1 b2 : Byte) : WellFormed.Statement (.incAbsX b1 b2) := ⟨rfl, rfl⟩
theorem WellFormed.decZp (b1 : Byte) : WellFormed.Statement (.decZp b1) := ⟨rfl, rfl⟩
theorem WellFormed.decZpX (b1 : Byte) : WellFormed.Statement (.decZpX b1) := ⟨rfl, rfl⟩
theorem WellFormed.decAbs (b1 b2 : Byte) : WellFormed.Statement (.decAbs b1 b2) := ⟨rfl, rfl⟩
theorem WellFormed.decAbsX (b1 b2 : Byte) : WellFormed.Statement (.decAbsX b1 b2) := ⟨rfl, rfl⟩
theorem WellFormed.inx : WellFormed.Statement (.inx) := ⟨rfl, rfl⟩
theorem WellFormed.iny : WellFormed.Statement (.iny) := ⟨rfl, rfl⟩
theorem WellFormed.dex : WellFormed.Statement (.dex) := ⟨rfl, rfl⟩
theorem WellFormed.dey : WellFormed.Statement (.dey) := ⟨rfl, rfl⟩
theorem WellFormed.nop : WellFormed.Statement (.nop) := ⟨rfl, rfl⟩
theorem WellFormed.brk : WellFormed.Statement (.brk) := ⟨rfl, rfl⟩

theorem RoundTrip.adcImm (b1 : Byte) : RoundTrip.Statement (.adcImm b1) := fun _ => rfl
theorem RoundTrip.adcZp (b1 : Byte) : RoundTrip.Statement (.adcZp b1) := fun _ => rfl
theorem RoundTrip.adcZpX (b1 : Byte) : RoundTrip.Statement (.adcZpX b1) := fun _ => rfl
theorem RoundTrip.adcAbs (b1 b2 : Byte) : RoundTrip.Statement (.adcAbs b1 b2) := fun _ => rfl
theorem RoundTrip.adcAbsX (b1 b2 : Byte) : RoundTrip.Statement (.adcAbsX b1 b2) := fun _ => rfl
theorem RoundTrip.adcAbsY (b1 b2 : Byte) : RoundTrip.Statement (.adcAbsY b1 b2) := fun _ => rfl
theorem RoundTrip.adcIndX (b1 : Byte) : RoundTrip.Statement (.adcIndX b1) := fun _ => rfl
theorem RoundTrip.adcIndY (b1 : Byte) : RoundTrip.Statement (.adcIndY b1) := fun _ => rfl
theorem RoundTrip.sbcImm (b1 : Byte) : RoundTrip.Statement (.sbcImm b1) := fun _ => rfl
theorem RoundTrip.sbcZp (b1 : Byte) : RoundTrip.Statement (.sbcZp b1) := fun _ => rfl
theorem RoundTrip.sbcZpX (b1 : Byte) : RoundTrip.Statement (.sbcZpX b1) := fun _ => rfl
theorem RoundTrip.sbcAbs (b1 b2 : Byte) : RoundTrip.Statement (.sbcAbs b1 b2) := fun _ => rfl
theorem RoundTrip.sbcAbsX (b1 b2 : Byte) : RoundTrip.Statement (.sbcAbsX b1 b2) := fun _ => rfl
theorem RoundTrip.sbcAbsY (b1 b2 : Byte) : RoundTrip.Statement (.sbcAbsY b1 b2) := fun _ => rfl
theorem RoundTrip.sbcIndX (b1 : Byte) : RoundTrip.Statement (.sbcIndX b1) := fun _ => rfl
theorem RoundTrip.sbcIndY (b1 : Byte) : RoundTrip.Statement (.sbcIndY b1) := fun _ => rfl
theorem RoundTrip.andImm (b1 : Byte) : RoundTrip.Statement (.andImm b1) := fun _ => rfl
theorem RoundTrip.andZp (b1 : Byte) : RoundTrip.Statement (.andZp b1) := fun _ => rfl
theorem RoundTrip.andZpX (b1 : Byte) : RoundTrip.Statement (.andZpX b1) := fun _ => rfl
theorem RoundTrip.andAbs (b1 b2 : Byte) : RoundTrip.Statement (.andAbs b1 b2) := fun _ => rfl
theorem RoundTrip.andAbsX (b1 b2 : Byte) : RoundTrip.Statement (.andAbsX b1 b2) := fun _ => rfl
theorem RoundTrip.andAbsY (b1 b2 : Byte) : RoundTrip.Statement (.andAbsY b1 b2) := fun _ => rfl
theorem RoundTrip.andIndX (b1 : Byte) : RoundTrip.Statement (.andIndX b1) := fun _ => rfl
theorem RoundTrip.andIndY (b1 : Byte) : RoundTrip.Statement (.andIndY b1) := fun _ => rfl
theorem RoundTrip.oraImm (b1 : Byte) : RoundTrip.Statement (.oraImm b1) := fun _ => rfl
theorem RoundTrip.oraZp (b1 : Byte) : RoundTrip.Statement (.oraZp b1) := fun _ => rfl
theorem RoundTrip.oraZpX (b1 : Byte) : RoundTrip.Statement (.oraZpX b1) := fun _ => rfl
theorem RoundTrip.oraAbs (b1 b2 : Byte) : RoundTrip.Statement (.oraAbs b1 b2) := fun _ => rfl
theorem RoundTrip.oraAbsX (b1 b2 : Byte) : RoundTrip.Statement (.oraAbsX b1 b2) := fun _ => rfl
theorem RoundTrip.oraAbsY (b1 b2 : Byte) : RoundTrip.Statement (.oraAbsY b1 b2) := fun _ => rfl
theorem RoundTrip.oraIndX (b1 : Byte) : RoundTrip.Statement (.oraIndX b1) := fun _ => rfl
theorem RoundTrip.oraIndY (b1 : Byte) : RoundTrip.Statement (.oraIndY b1) := fun _ => rfl
theorem RoundTrip.eorImm (b1 : Byte) : RoundTrip.Statement (.eorImm b1) := fun _ => rfl
theorem RoundTrip.eorZp (b1 : Byte) : RoundTrip.Statement (.eorZp b1) := fun _ => rfl
theorem RoundTrip.eorZpX (b1 : Byte) : RoundTrip.Statement (.eorZpX b1) := fun _ => rfl
theorem RoundTrip.eorAbs (b1 b2 : Byte) : RoundTrip.Statement (.eorAbs b1 b2) := fun _ => rfl
theorem RoundTrip.eorAbsX (b1 b2 : Byte) : RoundTrip.Statement (.eorAbsX b1 b2) := fun _ => rfl
theorem RoundTrip.eorAbsY (b1 b2 : Byte) : RoundTrip.Statement (.eorAbsY b1 b2) := fun _ => rfl
theorem RoundTrip.eorIndX (b1 : Byte) : RoundTrip.Statement (.eorIndX b1) := fun _ => rfl
theorem RoundTrip.eorIndY (b1 : Byte) : RoundTrip.Statement (.eorIndY b1) := fun _ => rfl
theorem RoundTrip.bitZp (b1 : Byte) : RoundTrip.Statement (.bitZp b1) := fun _ => rfl
theorem RoundTrip.bitAbs (b1 b2 : Byte) : RoundTrip.Statement (.bitAbs b1 b2) := fun _ => rfl
theorem RoundTrip.ldaImm (b1 : Byte) : RoundTrip.Statement (.ldaImm b1) := fun _ => rfl
theorem RoundTrip.ldaZp (b1 : Byte) : RoundTrip.Statement (.ldaZp b1) := fun _ => rfl
theorem RoundTrip.ldaZpX (b1 : Byte) : RoundTrip.Statement (.ldaZpX b1) := fun _ => rfl
theorem RoundTrip.ldaAbs (b1 b2 : Byte) : RoundTrip.Statement (.ldaAbs b1 b2) := fun _ => rfl
theorem RoundTrip.ldaAbsX (b1 b2 : Byte) : RoundTrip.Statement (.ldaAbsX b1 b2) := fun _ => rfl
theorem RoundTrip.ldaAbsY (b1 b2 : Byte) : RoundTrip.Statement (.ldaAbsY b1 b2) := fun _ => rfl
theorem RoundTrip.ldaIndX (b1 : Byte) : RoundTrip.Statement (.ldaIndX b1) := fun _ => rfl
theorem RoundTrip.ldaIndY (b1 : Byte) : RoundTrip.Statement (.ldaIndY b1) := fun _ => rfl
theorem RoundTrip.ldxImm (b1 : Byte) : RoundTrip.Statement (.ldxImm b1) := fun _ => rfl
theorem RoundTrip.ldxZp (b1 : Byte) : RoundTrip.Statement (.ldxZp b1) := fun _ => rfl
theorem RoundTrip.ldxZpY (b1 : Byte) : RoundTrip.Statement (.ldxZpY b1) := fun _ => rfl
theorem RoundTrip.ldxAbs (b1 b2 : Byte) : RoundTrip.Statement (.ldxAbs b1 b2) := fun _ => rfl
theorem RoundTrip.ldxAbsY (b1 b2 : Byte) : RoundTrip.Statement (.ldxAbsY b1 b2) := fun _ => rfl
theorem RoundTrip.ldyImm (b1 : Byte) : RoundTrip.Statement (.ldyImm b1) := fun _ => rfl
theorem RoundTrip.ldyZp (b1 : Byte) : RoundTrip.Statement (.ldyZp b1) := fun _ => rfl
theorem RoundTrip.ldyZpX (b1 : Byte) : RoundTrip.Statement (.ldyZpX b1) := fun _ => rfl
theorem RoundTrip.ldyAbs (b1 b2 : Byte) : RoundTrip.Statement (.ldyAbs b1 b2) := fun _ => rfl
theorem RoundTrip.ldyAbsX (b1 b2 : Byte) : RoundTrip.Statement (.ldyAbsX b1 b2) := fun _ => rfl
theorem RoundTrip.staZp (b1 : Byte) : RoundTrip.Statement (.staZp b1) := fun _ => rfl
theorem RoundTrip.staZpX (b1 : Byte) : RoundTrip.Statement (.staZpX b1) := fun _ => rfl
theorem RoundTrip.staAbs (b1 b2 : Byte) : RoundTrip.Statement (.staAbs b1 b2) := fun _ => rfl
theorem RoundTrip.staAbsX (b1 b2 : Byte) : RoundTrip.Statement (.staAbsX b1 b2) := fun _ => rfl
theorem RoundTrip.staAbsY (b1 b2 : Byte) : RoundTrip.Statement (.staAbsY b1 b2) := fun _ => rfl
theorem RoundTrip.staIndX (b1 : Byte) : RoundTrip.Statement (.staIndX b1) := fun _ => rfl
theorem RoundTrip.staIndY (b1 : Byte) : RoundTrip.Statement (.staIndY b1) := fun _ => rfl
theorem RoundTrip.stxZp (b1 : Byte) : RoundTrip.Statement (.stxZp b1) := fun _ => rfl
theorem RoundTrip.stxZpY (b1 : Byte) : RoundTrip.Statement (.stxZpY b1) := fun _ => rfl
theorem RoundTrip.stxAbs (b1 b2 : Byte) : RoundTrip.Statement (.stxAbs b1 b2) := fun _ => rfl
theorem RoundTrip.styZp (b1 : Byte) : RoundTrip.Statement (.styZp b1) := fun _ => rfl
theorem RoundTrip.styZpX (b1 : Byte) : RoundTrip.Statement (.styZpX b1) := fun _ => rfl
theorem RoundTrip.styAbs (b1 b2 : Byte) : RoundTrip.Statement (.styAbs b1 b2) := fun _ => rfl
theorem RoundTrip.tax : RoundTrip.Statement (.tax) := fun _ => rfl
theorem RoundTrip.tay : RoundTrip.Statement (.tay) := fun _ => rfl
theorem RoundTrip.txa : RoundTrip.Statement (.txa) := fun _ => rfl
theorem RoundTrip.tya : RoundTrip.Statement (.tya) := fun _ => rfl
theorem RoundTrip.tsx : RoundTrip.Statement (.tsx) := fun _ => rfl
theorem RoundTrip.txs : RoundTrip.Statement (.txs) := fun _ => rfl
theorem RoundTrip.bcc (b1 : Byte) : RoundTrip.Statement (.bcc b1) := fun _ => rfl
theorem RoundTrip.bcs (b1 : Byte) : RoundTrip.Statement (.bcs b1) := fun _ => rfl
theorem RoundTrip.beq (b1 : Byte) : RoundTrip.Statement (.beq b1) := fun _ => rfl
theorem RoundTrip.bne (b1 : Byte) : RoundTrip.Statement (.bne b1) := fun _ => rfl
theorem RoundTrip.bmi (b1 : Byte) : RoundTrip.Statement (.bmi b1) := fun _ => rfl
theorem RoundTrip.bpl (b1 : Byte) : RoundTrip.Statement (.bpl b1) := fun _ => rfl
theorem RoundTrip.bvc (b1 : Byte) : RoundTrip.Statement (.bvc b1) := fun _ => rfl
theorem RoundTrip.bvs (b1 : Byte) : RoundTrip.Statement (.bvs b1) := fun _ => rfl
theorem RoundTrip.pha : RoundTrip.Statement (.pha) := fun _ => rfl
theorem RoundTrip.php : RoundTrip.Statement (.php) := fun _ => rfl
theorem RoundTrip.pla : RoundTrip.Statement (.pla) := fun _ => rfl
theorem RoundTrip.plp : RoundTrip.Statement (.plp) := fun _ => rfl
theorem RoundTrip.clc : RoundTrip.Statement (.clc) := fun _ => rfl
theorem RoundTrip.sec : RoundTrip.Statement (.sec) := fun _ => rfl
theorem RoundTrip.cli : RoundTrip.Statement (.cli) := fun _ => rfl
theorem RoundTrip.sei : RoundTrip.Statement (.sei) := fun _ => rfl
theorem RoundTrip.cld : RoundTrip.Statement (.cld) := fun _ => rfl
theorem RoundTrip.sed : RoundTrip.Statement (.sed) := fun _ => rfl
theorem RoundTrip.clv : RoundTrip.Statement (.clv) := fun _ => rfl
theorem RoundTrip.jmpAbs (b1 b2 : Byte) : RoundTrip.Statement (.jmpAbs b1 b2) := fun _ => rfl
theorem RoundTrip.jmpInd (b1 b2 : Byte) : RoundTrip.Statement (.jmpInd b1 b2) := fun _ => rfl
theorem RoundTrip.jsr (b1 b2 : Byte) : RoundTrip.Statement (.jsr b1 b2) := fun _ => rfl
theorem RoundTrip.rts : RoundTrip.Statement (.rts) := fun _ => rfl
theorem RoundTrip.rti : RoundTrip.Statement (.rti) := fun _ => rfl
theorem RoundTrip.cmpImm (b1 : Byte) : RoundTrip.Statement (.cmpImm b1) := fun _ => rfl
theorem RoundTrip.cmpZp (b1 : Byte) : RoundTrip.Statement (.cmpZp b1) := fun _ => rfl
theorem RoundTrip.cmpZpX (b1 : Byte) : RoundTrip.Statement (.cmpZpX b1) := fun _ => rfl
theorem RoundTrip.cmpAbs (b1 b2 : Byte) : RoundTrip.Statement (.cmpAbs b1 b2) := fun _ => rfl
theorem RoundTrip.cmpAbsX (b1 b2 : Byte) : RoundTrip.Statement (.cmpAbsX b1 b2) := fun _ => rfl
theorem RoundTrip.cmpAbsY (b1 b2 : Byte) : RoundTrip.Statement (.cmpAbsY b1 b2) := fun _ => rfl
theorem RoundTrip.cmpIndX (b1 : Byte) : RoundTrip.Statement (.cmpIndX b1) := fun _ => rfl
theorem RoundTrip.cmpIndY (b1 : Byte) : RoundTrip.Statement (.cmpIndY b1) := fun _ => rfl
theorem RoundTrip.cpxImm (b1 : Byte) : RoundTrip.Statement (.cpxImm b1) := fun _ => rfl
theorem RoundTrip.cpxZp (b1 : Byte) : RoundTrip.Statement (.cpxZp b1) := fun _ => rfl
theorem RoundTrip.cpxAbs (b1 b2 : Byte) : RoundTrip.Statement (.cpxAbs b1 b2) := fun _ => rfl
theorem RoundTrip.cpyImm (b1 : Byte) : RoundTrip.Statement (.cpyImm b1) := fun _ => rfl
theorem RoundTrip.cpyZp (b1 : Byte) : RoundTrip.Statement (.cpyZp b1) := fun _ => rfl
theorem RoundTrip.cpyAbs (b1 b2 : Byte) : RoundTrip.Statement (.cpyAbs b1 b2) := fun _ => rfl
theorem RoundTrip.aslAcc : RoundTrip.Statement (.aslAcc) := fun _ => rfl
theorem RoundTrip.aslZp (b1 : Byte) : RoundTrip.Statement (.aslZp b1) := fun _ => rfl
theorem RoundTrip.aslZpX (b1 : Byte) : RoundTrip.Statement (.aslZpX b1) := fun _ => rfl
theorem RoundTrip.aslAbs (b1 b2 : Byte) : RoundTrip.Statement (.aslAbs b1 b2) := fun _ => rfl
theorem RoundTrip.aslAbsX (b1 b2 : Byte) : RoundTrip.Statement (.aslAbsX b1 b2) := fun _ => rfl
theorem RoundTrip.lsrAcc : RoundTrip.Statement (.lsrAcc) := fun _ => rfl
theorem RoundTrip.lsrZp (b1 : Byte) : RoundTrip.Statement (.lsrZp b1) := fun _ => rfl
theorem RoundTrip.lsrZpX (b1 : Byte) : RoundTrip.Statement (.lsrZpX b1) := fun _ => rfl
theorem RoundTrip.lsrAbs (b1 b2 : Byte) : RoundTrip.Statement (.lsrAbs b1 b2) := fun _ => rfl
theorem RoundTrip.lsrAbsX (b1 b2 : Byte) : RoundTrip.Statement (.lsrAbsX b1 b2) := fun _ => rfl
theorem RoundTrip.rolAcc : RoundTrip.Statement (.rolAcc) := fun _ => rfl
theorem RoundTrip.rolZp (b1 : Byte) : RoundTrip.Statement (.rolZp b1) := fun _ => rfl
theorem RoundTrip.rolZpX (b1 : Byte) : RoundTrip.Statement (.rolZpX b1) := fun _ => rfl
theorem RoundTrip.rolAbs (b1 b2 : Byte) : RoundTrip.Statement (.rolAbs b1 b2) := fun _ => rfl
theorem RoundTrip.rolAbsX (b1 b2 : Byte) : RoundTrip.Statement (.rolAbsX b1 b2) := fun _ => rfl
theorem RoundTrip.rorAcc : RoundTrip.Statement (.rorAcc) := fun _ => rfl
theorem RoundTrip.rorZp (b1 : Byte) : RoundTrip.Statement (.rorZp b1) := fun _ => rfl
theorem RoundTrip.rorZpX (b1 : Byte) : RoundTrip.Statement (.rorZpX b1) := fun _ => rfl
theorem RoundTrip.rorAbs (b1 b2 : Byte) : RoundTrip.Statement (.rorAbs b1 b2) := fun _ => rfl
theorem RoundTrip.rorAbsX (b1 b2 : Byte) : RoundTrip.Statement (.rorAbsX b1 b2) := fun _ => rfl
theorem RoundTrip.incZp (b1 : Byte) : RoundTrip.Statement (.incZp b1) := fun _ => rfl
theorem RoundTrip.incZpX (b1 : Byte) : RoundTrip.Statement (.incZpX b1) := fun _ => rfl
theorem RoundTrip.incAbs (b1 b2 : Byte) : RoundTrip.Statement (.incAbs b1 b2) := fun _ => rfl
theorem RoundTrip.incAbsX (b1 b2 : Byte) : RoundTrip.Statement (.incAbsX b1 b2) := fun _ => rfl
theorem RoundTrip.decZp (b1 : Byte) : RoundTrip.Statement (.decZp b1) := fun _ => rfl
theorem RoundTrip.decZpX (b1 : Byte) : RoundTrip.Statement (.decZpX b1) := fun _ => rfl
theorem RoundTrip.decAbs (b1 b2 : Byte) : RoundTrip.Statement (.decAbs b1 b2) := fun _ => rfl
theorem RoundTrip.decAbsX (b1 b2 : Byte) : RoundTrip.Statement (.decAbsX b1 b2) := fun _ => rfl
theorem RoundTrip.inx : RoundTrip.Statement (.inx) := fun _ => rfl
theorem RoundTrip.iny : RoundTrip.Statement (.iny) := fun _ => rfl
theorem RoundTrip.dex : RoundTrip.Statement (.dex) := fun _ => rfl
theorem RoundTrip.dey : RoundTrip.Statement (.dey) := fun _ => rfl
theorem RoundTrip.nop : RoundTrip.Statement (.nop) := fun _ => rfl
theorem RoundTrip.brk : RoundTrip.Statement (.brk) := fun _ => rfl

end Sys2Proof.Laws
end

