-- ==== Sys2Proof/Tests/Slice0.lean ====
section
/-! SUPPORT. The model's own tests. Expected results come from spec/ alone: the vectors V<n> and the examples of
spec/95_test_vectors.md, spec/opcode_table.json, and the corner cases of the rules. At the end, for each statement with
hypotheses, a concrete state and operands that meet them. -/

namespace Sys2Proof.Tests

open Sys2Proof Sys2Proof.Machine Sys2Proof.Claims

/-! ## Helpers -/

/-- The start state of the vectors (95_test_vectors.md section 0), with code at `pc` and upward. -/
def start (pc : Addr) (code : List Byte) : State :=
  ({ State.reset with pc := pc, sp := 0xFF, phase := .stepping }).storeAtPc code

/-- `pc`, A, X, Y, SP and the packed flags, Break as stored (R9). -/
def seen : Result → Option (Addr × Byte × Byte × Byte × Byte × Byte)
  | .next t => some (t.pc, t.a, t.x, t.y, t.sp, t.inspectStatus)
  | .fault _ | .refused _ => none

/-- A byte of memory afterwards. -/
def byteAfter (r : Result) (adr : Addr) : Option Byte :=
  match r with
  | .next t => some (t.inspectByte adr)
  | .fault _ | .refused _ => none

/-- The result and the fault report afterwards. -/
def verdict : Result → Option (StepResult × Option (Byte × Addr))
  | .next t => some (t.result, t.faultReport)
  | .fault _ | .refused _ => none

/-! ## WellFormed smoke tests: each check refuses a form -/

/-- R79: STA has no Immediate encoding. -/
theorem test_wellFormed_refuses_store_immediate : Form.wellFormed ⟨.sta, .immediate, 0x10, 0⟩ = false := by decide

/-- R79: INC has no Accumulator encoding. -/
theorem test_wellFormed_refuses_inc_accumulator : Form.wellFormed ⟨.inc, .accumulator, 0, 0⟩ = false := by decide

/-- R79: LDX is indexed by Y, not X. -/
theorem test_wellFormed_refuses_ldx_zeroPageX : Form.wellFormed ⟨.ldx, .zeroPageX, 0x10, 0⟩ = false := by decide

/-- R79: JSR has no Indirect encoding. -/
theorem test_wellFormed_refuses_jsr_indirect : Form.wellFormed ⟨.jsr, .indirect, 0x10, 0x02⟩ = false := by decide

/-- R82: an Implied form has no operand byte. -/
theorem test_wellFormed_refuses_stray_b1 : Form.wellFormed ⟨.nop, .implied, 0x01, 0⟩ = false := by decide

/-- R82: an Immediate form has one operand byte. -/
theorem test_wellFormed_refuses_stray_b2 : Form.wellFormed ⟨.lda, .immediate, 0x01, 0x02⟩ = false := by decide

theorem test_wellFormed_accepts : Form.wellFormed ⟨.lda, .absoluteX, 0xFF, 0xFF⟩ = true := by decide

/-! ## Decoding: words written out from the spec's encodings -/

/-- A row of spec/opcode_table.json: opcode, mnemonic, mode, operand bytes, base cycles, page-cross mark. -/
structure TableRow where
  op    : Byte
  mn    : Mnemonic
  mode  : Mode
  bytes : Nat
  base  : Nat
  cross : Bool

/-- The dispatch record of the opcode byte is the row's. -/
def TableRow.agrees (r : TableRow) : Bool :=
  dispatchRom r.op = some ⟨r.mn, r.mode, r.bytes, r.base, r.cross⟩

/-- Rows 1 to 19 of spec/opcode_table.json. -/
def tableRows1 : List TableRow :=
  [⟨0x00, .brk, .implied, 0, 7, false⟩, ⟨0x01, .ora, .indexedIndirect, 1, 6, false⟩,
   ⟨0x05, .ora, .zeroPage, 1, 3, false⟩, ⟨0x06, .asl, .zeroPage, 1, 5, false⟩,
   ⟨0x08, .php, .implied, 0, 3, false⟩, ⟨0x09, .ora, .immediate, 1, 2, false⟩,
   ⟨0x0A, .asl, .accumulator, 0, 2, false⟩, ⟨0x0D, .ora, .absolute, 2, 4, false⟩,
   ⟨0x0E, .asl, .absolute, 2, 6, false⟩, ⟨0x10, .bpl, .relative, 1, 2, true⟩,
   ⟨0x11, .ora, .indirectIndexed, 1, 5, true⟩, ⟨0x15, .ora, .zeroPageX, 1, 4, false⟩,
   ⟨0x16, .asl, .zeroPageX, 1, 6, false⟩, ⟨0x18, .clc, .implied, 0, 2, false⟩,
   ⟨0x19, .ora, .absoluteY, 2, 4, true⟩, ⟨0x1D, .ora, .absoluteX, 2, 4, true⟩,
   ⟨0x1E, .asl, .absoluteX, 2, 7, false⟩, ⟨0x20, .jsr, .absolute, 2, 6, false⟩,
   ⟨0x21, .and, .indexedIndirect, 1, 6, false⟩]

/-- Rows 20 to 38 of spec/opcode_table.json. -/
def tableRows2 : List TableRow :=
  [⟨0x24, .bit, .zeroPage, 1, 3, false⟩, ⟨0x25, .and, .zeroPage, 1, 3, false⟩,
   ⟨0x26, .rol, .zeroPage, 1, 5, false⟩, ⟨0x28, .plp, .implied, 0, 4, false⟩,
   ⟨0x29, .and, .immediate, 1, 2, false⟩, ⟨0x2A, .rol, .accumulator, 0, 2, false⟩,
   ⟨0x2C, .bit, .absolute, 2, 4, false⟩, ⟨0x2D, .and, .absolute, 2, 4, false⟩,
   ⟨0x2E, .rol, .absolute, 2, 6, false⟩, ⟨0x30, .bmi, .relative, 1, 2, true⟩,
   ⟨0x31, .and, .indirectIndexed, 1, 5, true⟩, ⟨0x35, .and, .zeroPageX, 1, 4, false⟩,
   ⟨0x36, .rol, .zeroPageX, 1, 6, false⟩, ⟨0x38, .sec, .implied, 0, 2, false⟩,
   ⟨0x39, .and, .absoluteY, 2, 4, true⟩, ⟨0x3D, .and, .absoluteX, 2, 4, true⟩,
   ⟨0x3E, .rol, .absoluteX, 2, 7, false⟩, ⟨0x40, .rti, .implied, 0, 6, false⟩,
   ⟨0x41, .eor, .indexedIndirect, 1, 6, false⟩]

/-- Rows 39 to 57 of spec/opcode_table.json. -/
def tableRows3 : List TableRow :=
  [⟨0x45, .eor, .zeroPage, 1, 3, false⟩, ⟨0x46, .lsr, .zeroPage, 1, 5, false⟩,
   ⟨0x48, .pha, .implied, 0, 3, false⟩, ⟨0x49, .eor, .immediate, 1, 2, false⟩,
   ⟨0x4A, .lsr, .accumulator, 0, 2, false⟩, ⟨0x4C, .jmp, .absolute, 2, 3, false⟩,
   ⟨0x4D, .eor, .absolute, 2, 4, false⟩, ⟨0x4E, .lsr, .absolute, 2, 6, false⟩,
   ⟨0x50, .bvc, .relative, 1, 2, true⟩, ⟨0x51, .eor, .indirectIndexed, 1, 5, true⟩,
   ⟨0x55, .eor, .zeroPageX, 1, 4, false⟩, ⟨0x56, .lsr, .zeroPageX, 1, 6, false⟩,
   ⟨0x58, .cli, .implied, 0, 2, false⟩, ⟨0x59, .eor, .absoluteY, 2, 4, true⟩,
   ⟨0x5D, .eor, .absoluteX, 2, 4, true⟩, ⟨0x5E, .lsr, .absoluteX, 2, 7, false⟩,
   ⟨0x60, .rts, .implied, 0, 6, false⟩, ⟨0x61, .adc, .indexedIndirect, 1, 6, false⟩,
   ⟨0x65, .adc, .zeroPage, 1, 3, false⟩]

/-- Rows 58 to 76 of spec/opcode_table.json. -/
def tableRows4 : List TableRow :=
  [⟨0x66, .ror, .zeroPage, 1, 5, false⟩, ⟨0x68, .pla, .implied, 0, 4, false⟩,
   ⟨0x69, .adc, .immediate, 1, 2, false⟩, ⟨0x6A, .ror, .accumulator, 0, 2, false⟩,
   ⟨0x6C, .jmp, .indirect, 2, 5, false⟩, ⟨0x6D, .adc, .absolute, 2, 4, false⟩,
   ⟨0x6E, .ror, .absolute, 2, 6, false⟩, ⟨0x70, .bvs, .relative, 1, 2, true⟩,
   ⟨0x71, .adc, .indirectIndexed, 1, 5, true⟩, ⟨0x75, .adc, .zeroPageX, 1, 4, false⟩,
   ⟨0x76, .ror, .zeroPageX, 1, 6, false⟩, ⟨0x78, .sei, .implied, 0, 2, false⟩,
   ⟨0x79, .adc, .absoluteY, 2, 4, true⟩, ⟨0x7D, .adc, .absoluteX, 2, 4, true⟩,
   ⟨0x7E, .ror, .absoluteX, 2, 7, false⟩, ⟨0x81, .sta, .indexedIndirect, 1, 6, false⟩,
   ⟨0x84, .sty, .zeroPage, 1, 3, false⟩, ⟨0x85, .sta, .zeroPage, 1, 3, false⟩,
   ⟨0x86, .stx, .zeroPage, 1, 3, false⟩]

/-- Rows 77 to 95 of spec/opcode_table.json. -/
def tableRows5 : List TableRow :=
  [⟨0x88, .dey, .implied, 0, 2, false⟩, ⟨0x8A, .txa, .implied, 0, 2, false⟩,
   ⟨0x8C, .sty, .absolute, 2, 4, false⟩, ⟨0x8D, .sta, .absolute, 2, 4, false⟩,
   ⟨0x8E, .stx, .absolute, 2, 4, false⟩, ⟨0x90, .bcc, .relative, 1, 2, true⟩,
   ⟨0x91, .sta, .indirectIndexed, 1, 6, false⟩, ⟨0x94, .sty, .zeroPageX, 1, 4, false⟩,
   ⟨0x95, .sta, .zeroPageX, 1, 4, false⟩, ⟨0x96, .stx, .zeroPageY, 1, 4, false⟩,
   ⟨0x98, .tya, .implied, 0, 2, false⟩, ⟨0x99, .sta, .absoluteY, 2, 5, false⟩,
   ⟨0x9A, .txs, .implied, 0, 2, false⟩, ⟨0x9D, .sta, .absoluteX, 2, 5, false⟩,
   ⟨0xA0, .ldy, .immediate, 1, 2, false⟩, ⟨0xA1, .lda, .indexedIndirect, 1, 6, false⟩,
   ⟨0xA2, .ldx, .immediate, 1, 2, false⟩, ⟨0xA4, .ldy, .zeroPage, 1, 3, false⟩,
   ⟨0xA5, .lda, .zeroPage, 1, 3, false⟩]

/-- Rows 96 to 114 of spec/opcode_table.json. -/
def tableRows6 : List TableRow :=
  [⟨0xA6, .ldx, .zeroPage, 1, 3, false⟩, ⟨0xA8, .tay, .implied, 0, 2, false⟩,
   ⟨0xA9, .lda, .immediate, 1, 2, false⟩, ⟨0xAA, .tax, .implied, 0, 2, false⟩,
   ⟨0xAC, .ldy, .absolute, 2, 4, false⟩, ⟨0xAD, .lda, .absolute, 2, 4, false⟩,
   ⟨0xAE, .ldx, .absolute, 2, 4, false⟩, ⟨0xB0, .bcs, .relative, 1, 2, true⟩,
   ⟨0xB1, .lda, .indirectIndexed, 1, 5, true⟩, ⟨0xB4, .ldy, .zeroPageX, 1, 4, false⟩,
   ⟨0xB5, .lda, .zeroPageX, 1, 4, false⟩, ⟨0xB6, .ldx, .zeroPageY, 1, 4, false⟩,
   ⟨0xB8, .clv, .implied, 0, 2, false⟩, ⟨0xB9, .lda, .absoluteY, 2, 4, true⟩,
   ⟨0xBA, .tsx, .implied, 0, 2, false⟩, ⟨0xBC, .ldy, .absoluteX, 2, 4, true⟩,
   ⟨0xBD, .lda, .absoluteX, 2, 4, true⟩, ⟨0xBE, .ldx, .absoluteY, 2, 4, true⟩,
   ⟨0xC0, .cpy, .immediate, 1, 2, false⟩]

/-- Rows 115 to 133 of spec/opcode_table.json. -/
def tableRows7 : List TableRow :=
  [⟨0xC1, .cmp, .indexedIndirect, 1, 6, false⟩, ⟨0xC4, .cpy, .zeroPage, 1, 3, false⟩,
   ⟨0xC5, .cmp, .zeroPage, 1, 3, false⟩, ⟨0xC6, .dec, .zeroPage, 1, 5, false⟩,
   ⟨0xC8, .iny, .implied, 0, 2, false⟩, ⟨0xC9, .cmp, .immediate, 1, 2, false⟩,
   ⟨0xCA, .dex, .implied, 0, 2, false⟩, ⟨0xCC, .cpy, .absolute, 2, 4, false⟩,
   ⟨0xCD, .cmp, .absolute, 2, 4, false⟩, ⟨0xCE, .dec, .absolute, 2, 6, false⟩,
   ⟨0xD0, .bne, .relative, 1, 2, true⟩, ⟨0xD1, .cmp, .indirectIndexed, 1, 5, true⟩,
   ⟨0xD5, .cmp, .zeroPageX, 1, 4, false⟩, ⟨0xD6, .dec, .zeroPageX, 1, 6, false⟩,
   ⟨0xD8, .cld, .implied, 0, 2, false⟩, ⟨0xD9, .cmp, .absoluteY, 2, 4, true⟩,
   ⟨0xDD, .cmp, .absoluteX, 2, 4, true⟩, ⟨0xDE, .dec, .absoluteX, 2, 7, false⟩,
   ⟨0xE0, .cpx, .immediate, 1, 2, false⟩]

/-- Rows 134 to 151 of spec/opcode_table.json. -/
def tableRows8 : List TableRow :=
  [⟨0xE1, .sbc, .indexedIndirect, 1, 6, false⟩, ⟨0xE4, .cpx, .zeroPage, 1, 3, false⟩,
   ⟨0xE5, .sbc, .zeroPage, 1, 3, false⟩, ⟨0xE6, .inc, .zeroPage, 1, 5, false⟩,
   ⟨0xE8, .inx, .implied, 0, 2, false⟩, ⟨0xE9, .sbc, .immediate, 1, 2, false⟩,
   ⟨0xEA, .nop, .implied, 0, 2, false⟩, ⟨0xEC, .cpx, .absolute, 2, 4, false⟩,
   ⟨0xED, .sbc, .absolute, 2, 4, false⟩, ⟨0xEE, .inc, .absolute, 2, 6, false⟩,
   ⟨0xF0, .beq, .relative, 1, 2, true⟩, ⟨0xF1, .sbc, .indirectIndexed, 1, 5, true⟩,
   ⟨0xF5, .sbc, .zeroPageX, 1, 4, false⟩, ⟨0xF6, .inc, .zeroPageX, 1, 6, false⟩,
   ⟨0xF8, .sed, .implied, 0, 2, false⟩, ⟨0xF9, .sbc, .absoluteY, 2, 4, true⟩,
   ⟨0xFD, .sbc, .absoluteX, 2, 4, true⟩, ⟨0xFE, .inc, .absoluteX, 2, 7, false⟩]

/-- All 151 rows. -/
def tableRows : List TableRow :=
  tableRows1 ++ tableRows2 ++ tableRows3 ++ tableRows4 ++ tableRows5 ++ tableRows6 ++ tableRows7 ++ tableRows8

/-- Every row of the opcode table, with its mode, operand byte count and cycle figures (R73, R78, R83). -/
theorem test_table_rows_agree : tableRows.all TableRow.agrees = true := by decide +kernel

theorem test_table_has_151_rows : tableRows.length = 151 ∧ (tableRows.map TableRow.op).Nodup := by decide +kernel

/-- Bytes no row has are rejected (R80). -/
theorem test_other_bytes_are_rejected :
    (List.range 256).all (fun n => (tableRows.any (fun r => r.op = BitVec.ofNat 8 n)) ||
      dispatchRom (BitVec.ofNat 8 n) = none) = true := by decide +kernel

/-- `01111101 bbbbbbbb aaaaaaaa`: ADC AbsoluteX, low byte first. -/
theorem test_decode_adc : decode 0b01111101 0xF0 0x12 = .ok (.adcAbsX 0xF0 0x12) := by rfl

/-- `00110001 pppppppp`: AND IndirectIndexed. -/
theorem test_decode_and : decode 0b00110001 0x86 0x00 = .ok (.andIndY 0x86) := by rfl

/-- `10010110 zzzzzzzz`: STX ZeroPageY. -/
theorem test_decode_stx : decode 0b10010110 0xF0 0x00 = .ok (.stxZpY 0xF0) := by rfl

/-- `11010000 rrrrrrrr`: BNE. -/
theorem test_decode_bne : decode 0b11010000 0xF8 0x00 = .ok (.bne 0xF8) := by rfl

/-- `00101000`: PLP. -/
theorem test_decode_plp : decode 0b00101000 0x00 0x00 = .ok .plp := by rfl

/-- `01101100 aaaaaaaa aaaaaaaa`: JMP Indirect. -/
theorem test_decode_jmp : decode 0b01101100 0xFF 0x02 = .ok (.jmpInd 0xFF 0x02) := by rfl

/-- `11010001 pppppppp`: CMP IndirectIndexed. -/
theorem test_decode_cmp : decode 0b11010001 0x40 0x00 = .ok (.cmpIndY 0x40) := by rfl

/-- `01101010`: ROR Accumulator. -/
theorem test_decode_ror : decode 0b01101010 0x00 0x00 = .ok .rorAcc := by rfl

/-- `11101010`: NOP. -/
theorem test_decode_nop : decode 0b11101010 0x00 0x00 = .ok .nop := by rfl

/-- 0xEB is unassigned (R80, V180). -/
theorem test_decode_rejects : decode 0xEB 0x01 0x00 = .error (.unassigned 0xEB) := by rfl

/-- A list that ends before the operand bytes is not an instruction. -/
theorem test_decodeBytes_truncated : decodeBytes [0xAD, 0x34] = .error .truncated := by rfl

/-- `LDA $1234` as the host numbers its bits. -/
theorem test_decodeTableWord : decodeTableWord 24 0x1234AD = some (.ldaAbs 0x34 0x12) := by decide

/-- The host's word is what the next step runs, from reset (V8 at pc = 0: memory reads zero). -/
theorem test_withFetchWord :
    seen (step (State.reset.withFetchWord 24 0x0000AD)) = some (0x0003, 0xAD, 0x00, 0x00, 0x00, 0xA0) := by decide

/-! ## Reset and the host (R40, R251, R7, D9) -/

/-- P7: the empty image is a BRK at 0x0000. -/
theorem test_reset_runs_brk :
    seen (step State.reset) = some (0x0001, 0x00, 0x00, 0x00, 0x00, 0x30) ∧
    verdict (step State.reset) = some (.halt, none) := by decide

theorem test_host_load_then_refused :
    byteAfter (hostLoad 0xFFFF 0x5A State.reset) 0xFFFF = some 0x5A ∧
    hostLoad 0xFFFF 0x5A (start 0x0200 []) = .refused .hostWriteAfterFirstStep := ⟨by decide, by rfl⟩

/-- Writing the reset contents back removes the entry (log 6). -/
theorem test_memory_canonical : (((start 0x0200 []).write 0x10 0x05).write 0x10 0x00).mem = [] := by decide

/-! ## The illegal-opcode step (R222, V178, V179) -/

theorem test_illegal_V178 :
    seen (step ((((start 0x0400 [0xFF]).setA 0x12).setX 0x34).setY 0x56)) =
      some (0x0400, 0x12, 0x34, 0x56, 0xFF, 0x20) ∧
    verdict (step (start 0x0400 [0xFF])) = some (.illegalOpcode, some (0xFF, 0x0400)) := by decide

theorem test_illegal_V179 :
    verdict (step (start 0x0200 [0x02, 0xA9, 0x55])) = some (.illegalOpcode, some (0x02, 0x0200)) := by decide

/-- V177: a step taken while Halted changes nothing and returns `Halt` again (R76). -/
theorem test_halted_V177 :
    step (start 0x0200 [0x00, 0xA9, 0x55]).haltByBreak = .next (start 0x0200 [0x00, 0xA9, 0x55]).haltByBreak ∧
    verdict (step (start 0x0200 [0x00]).haltByBreak) = some (.halt, none) := ⟨by rfl, by decide⟩

/-- DECIMAL_POLICY: 0x09 + 0x01 with D set is 0x0A under `binary`, and has no meaning under `refuse` (V30, R112). -/
theorem test_decimal_policy :
    seen (adc .binary 0x01 2 (((start 0x0200 []).setA 0x09).setD true)) =
      some (0x0202, 0x0A, 0x00, 0x00, 0xFF, 0x28) ∧
    adc .refuse 0x01 2 (((start 0x0200 []).setA 0x09).setD true) = .refused .decimalMode :=
  ⟨by decide, by rfl⟩

/-- A whole step under each policy, with D set (V42, R112): 0x10 - 0x01 is 0x0F under `binary`. -/
theorem test_step_under_policy :
    seen (stepUnder .binary ((((start 0x0200 [0xE9, 0x01]).setA 0x10).setC true).setD true)) =
      some (0x0202, 0x0F, 0x00, 0x00, 0xFF, 0x29) ∧
    stepUnder .refuse ((((start 0x0200 [0xE9, 0x01]).setA 0x10).setC true).setD true) = .refused .decimalMode ∧
    seen (stepUnder .refuse (((start 0x0200 [0xE9, 0x01]).setA 0x10).setC true)) =
      some (0x0202, 0x0F, 0x00, 0x00, 0xFF, 0x21) := ⟨by decide, by rfl, by decide⟩

/-! ## Single steps: vectors of 95_test_vectors.md (at most two for an instruction) -/

theorem test_clc_V1 :
    seen (step ((start 0x0200 [0x18]).setC true)) = some (0x0201, 0x00, 0x00, 0x00, 0xFF, 0x20) := by decide

theorem test_ldaImm_V3 :
    seen (step (start 0x0200 [0xA9, 0x80])) = some (0x0202, 0x80, 0x00, 0x00, 0xFF, 0xA0) := by decide

theorem test_ldaZp_V4 :
    seen (step ((start 0x0200 [0xA5, 0x10]).write 0x0010 0x7F)) = some (0x0202, 0x7F, 0x00, 0x00, 0xFF, 0x20) := by decide

theorem test_ldaZpX_V5 :
    seen (step ((((start 0x0200 [0xB5, 0xFF]).setX 0x02).write 0x0001 0x5A).write 0x0101 0xEE)) = some (0x0202, 0x5A, 0x02, 0x00, 0xFF, 0x20) := by decide

theorem test_ldxZpY_V6 :
    seen (step ((((start 0x0200 [0xB6, 0x80]).setY 0x90).write 0x0010 0x33).write 0x0110 0xEE)) = some (0x0202, 0x00, 0x33, 0x90, 0xFF, 0x20) := by decide

theorem test_ldaAbsX_V9 :
    seen (step (((start 0x0200 [0xBD, 0xF0, 0x12]).setX 0x20).write 0x1310 0x44)) = some (0x0203, 0x44, 0x20, 0x00, 0xFF, 0x20) := by decide

theorem test_ldaAbsX_V10 :
    seen (step (((start 0x0200 [0xBD, 0xF0, 0xFF]).setX 0x20).write 0x0010 0x45)) = some (0x0203, 0x45, 0x20, 0x00, 0xFF, 0x20) := by decide

theorem test_ldaAbsY_V11 :
    seen (step (((start 0x0200 [0xB9, 0x00, 0x20]).setY 0xFF).write 0x20FF 0x00)) = some (0x0203, 0x00, 0x00, 0xFF, 0xFF, 0x22) := by decide

theorem test_jmpInd_V12 :
    seen (step (((start 0x0400 [0x6C, 0xFF, 0x02]).write 0x02FF 0x34).write 0x0300 0x56)) = some (0x0034, 0x00, 0x00, 0x00, 0xFF, 0x20) := by decide

theorem test_jmpInd_V13 :
    seen (step ((((start 0x0400 [0x6C, 0xFF, 0x02]).write 0x0200 0x12).write 0x02FF 0x34).write 0x0300 0x56)) = some (0x1234, 0x00, 0x00, 0x00, 0xFF, 0x20) := by decide

theorem test_ldaIndX_V15 :
    seen (step (((((start 0x0200 [0xA1, 0x20]).setX 0x04).write 0x0024 0x74).write 0x0025 0x20).write 0x2074 0xAB)) = some (0x0202, 0xAB, 0x04, 0x00, 0xFF, 0xA0) := by decide

theorem test_ldaIndX_V16 :
    seen (step (((((((start 0x0200 [0xA1, 0xFE]).setX 0x01).write 0x0000 0x30).write 0x00FF 0x00).write 0x0100 0x40).write 0x3000 0x11).write 0x4000 0x22)) = some (0x0202, 0x11, 0x01, 0x00, 0xFF, 0x20) := by decide

theorem test_ldaIndY_V18 :
    seen (step ((((((start 0x0200 [0xB1, 0x86]).setY 0x20).write 0x0086 0xF0).write 0x0087 0x40).write 0x4010 0xEE).write 0x4110 0x66)) = some (0x0202, 0x66, 0x00, 0x20, 0xFF, 0x20) := by decide

theorem test_ldaIndY_V19 :
    seen (step ((((((start 0x0200 [0xB1, 0xFF]).setY 0x02).write 0x0000 0xFF).write 0x0001 0x77).write 0x00FF 0xFF).write 0x0100 0x12)) = some (0x0202, 0x77, 0x00, 0x02, 0xFF, 0x20) := by decide

theorem test_staIndY_V20 :
    seen (step (((((start 0x0200 [0x91, 0x40]).setA 0x5A).setY 0x01).write 0x0040 0xFF).write 0x0041 0x12)) = some (0x0202, 0x5A, 0x00, 0x01, 0xFF, 0x20) ∧
    byteAfter (step (((((start 0x0200 [0x91, 0x40]).setA 0x5A).setY 0x01).write 0x0040 0xFF).write 0x0041 0x12)) 0x1300 = some 0x5A := by decide

theorem test_adcImm_V24 :
    seen (step ((start 0x0200 [0x69, 0x80]).setA 0x80)) = some (0x0202, 0x00, 0x00, 0x00, 0xFF, 0x63) := by decide

theorem test_adcImm_V29 :
    seen (step (((start 0x0200 [0x69, 0x40]).setA 0x3F).setC true)) = some (0x0202, 0x80, 0x00, 0x00, 0xFF, 0xE0) := by decide

theorem test_adcZpX_V32 :
    seen (step (((((start 0x0200 [0x75, 0x10]).setA 0x01).setX 0x03).setC true).write 0x0013 0x02)) = some (0x0202, 0x04, 0x03, 0x00, 0xFF, 0x20) := by decide

theorem test_sbcImm_V34 :
    seen (step ((start 0x0200 [0xE9, 0x01]).setC true)) = some (0x0202, 0xFF, 0x00, 0x00, 0xFF, 0xA0) := by decide

theorem test_sbcImm_V35 :
    seen (step (((start 0x0200 [0xE9, 0x01]).setA 0x80).setC true)) = some (0x0202, 0x7F, 0x00, 0x00, 0xFF, 0x61) := by decide

theorem test_andImm_V43 :
    seen (step ((start 0x0200 [0x29, 0x3C]).setA 0xF0)) = some (0x0202, 0x30, 0x00, 0x00, 0xFF, 0x20) := by decide

theorem test_andImm_V44 :
    seen (step ((start 0x0200 [0x29, 0x00]).setA 0xFF)) = some (0x0202, 0x00, 0x00, 0x00, 0xFF, 0x22) := by decide

theorem test_oraImm_V46 :
    seen (step ((start 0x0200 [0x09, 0x80]).setA 0x0F)) = some (0x0202, 0x8F, 0x00, 0x00, 0xFF, 0xA0) := by decide

theorem test_oraImm_V47 :
    seen (step (start 0x0200 [0x09, 0x00])) = some (0x0202, 0x00, 0x00, 0x00, 0xFF, 0x22) := by decide

theorem test_eorImm_V48 :
    seen (step ((start 0x0200 [0x49, 0xFF]).setA 0xAA)) = some (0x0202, 0x55, 0x00, 0x00, 0xFF, 0x20) := by decide

theorem test_eorImm_V49 :
    seen (step ((start 0x0200 [0x49, 0x5A]).setA 0x5A)) = some (0x0202, 0x00, 0x00, 0x00, 0xFF, 0x22) := by decide

theorem test_bitZp_V50 :
    seen (step (((start 0x0200 [0x24, 0x10]).setA 0x01).write 0x0010 0xC0)) = some (0x0202, 0x01, 0x00, 0x00, 0xFF, 0xE2) := by decide

theorem test_bitZp_V51 :
    seen (step (((((start 0x0200 [0x24, 0x10]).setA 0xFF).setV true).setN true).write 0x0010 0x3F)) = some (0x0202, 0xFF, 0x00, 0x00, 0xFF, 0x20) := by decide

theorem test_bitAbs_V52 :
    seen (step (((start 0x0200 [0x2C, 0x34, 0x12]).setC true).write 0x1234 0x40)) = some (0x0203, 0x00, 0x00, 0x00, 0xFF, 0x63) := by decide

theorem test_ldaAbs_V56 :
    seen (step (start 0x0200 [0xAD, 0x00, 0x02])) = some (0x0203, 0xAD, 0x00, 0x00, 0xFF, 0xA0) := by decide

theorem test_ldxImm_V57 :
    seen (step (start 0x0200 [0xA2, 0x05])) = some (0x0202, 0x00, 0x05, 0x00, 0xFF, 0x20) := by decide

theorem test_ldxAbsY_V58 :
    seen (step (((start 0x0200 [0xBE, 0xFF, 0x12]).setY 0x01).write 0x1300 0x80)) = some (0x0203, 0x00, 0x80, 0x01, 0xFF, 0xA0) := by decide

theorem test_ldyImm_V59 :
    seen (step (start 0x0200 [0xA0, 0xFF])) = some (0x0202, 0x00, 0x00, 0xFF, 0xFF, 0xA0) := by decide

theorem test_ldyZpX_V60 :
    seen (step ((((start 0x0200 [0xB4, 0x10]).setX 0x10).setN true).write 0x0020 0x00)) = some (0x0202, 0x00, 0x10, 0x00, 0xFF, 0x22) := by decide

theorem test_staAbs_V61 :
    seen (step ((((((start 0x0200 [0x8D, 0x00, 0x03]).setA 0x42).setC true).setZ true).setV true).setN true)) = some (0x0203, 0x42, 0x00, 0x00, 0xFF, 0xE3) ∧
    byteAfter (step ((((((start 0x0200 [0x8D, 0x00, 0x03]).setA 0x42).setC true).setZ true).setV true).setN true)) 0x0300 = some 0x42 := by decide

theorem test_staZpX_V62 :
    seen (step ((start 0x0200 [0x95, 0xFE]).setX 0x05)) = some (0x0202, 0x00, 0x05, 0x00, 0xFF, 0x20) := by decide

theorem test_staIndX_V63 :
    seen (step (((((start 0x0200 [0x81, 0x20]).setA 0x77).setX 0x04).write 0x0024 0x00).write 0x0025 0x03)) = some (0x0202, 0x77, 0x04, 0x00, 0xFF, 0x20) ∧
    byteAfter (step (((((start 0x0200 [0x81, 0x20]).setA 0x77).setX 0x04).write 0x0024 0x00).write 0x0025 0x03)) 0x0300 = some 0x77 := by decide

theorem test_staAbs_V64 :
    seen (step ((start 0x0200 [0x8D, 0x01, 0x02]).setA 0xEA)) = some (0x0203, 0xEA, 0x00, 0x00, 0xFF, 0x20) ∧
    byteAfter (step ((start 0x0200 [0x8D, 0x01, 0x02]).setA 0xEA)) 0x0201 = some 0xEA := by decide

theorem test_stxZp_V65 :
    seen (step ((start 0x0200 [0x86, 0x10]).setX 0x05)) = some (0x0202, 0x00, 0x05, 0x00, 0xFF, 0x20) ∧
    byteAfter (step ((start 0x0200 [0x86, 0x10]).setX 0x05)) 0x0010 = some 0x05 := by decide

theorem test_stxZpY_V66 :
    seen (step (((start 0x0200 [0x96, 0xF0]).setX 0x05).setY 0x20)) = some (0x0202, 0x00, 0x05, 0x20, 0xFF, 0x20) ∧
    byteAfter (step (((start 0x0200 [0x96, 0xF0]).setX 0x05).setY 0x20)) 0x0010 = some 0x05 := by decide

theorem test_styZpX_V67 :
    seen (step (((start 0x0200 [0x94, 0x10]).setX 0x01).setY 0x07)) = some (0x0202, 0x00, 0x01, 0x07, 0xFF, 0x20) ∧
    byteAfter (step (((start 0x0200 [0x94, 0x10]).setX 0x01).setY 0x07)) 0x0011 = some 0x07 := by decide

theorem test_tax_V68 :
    seen (step ((start 0x0200 [0xAA]).setX 0x55)) = some (0x0201, 0x00, 0x00, 0x00, 0xFF, 0x22) := by decide

theorem test_tay_V69 :
    seen (step ((start 0x0200 [0xA8]).setA 0x80)) = some (0x0201, 0x80, 0x00, 0x80, 0xFF, 0xA0) := by decide

theorem test_txa_V70 :
    seen (step ((((start 0x0200 [0x8A]).setA 0xFF).setX 0x7F).setN true)) = some (0x0201, 0x7F, 0x7F, 0x00, 0xFF, 0x20) := by decide

theorem test_tya_V71 :
    seen (step ((start 0x0200 [0x98]).setY 0xFF)) = some (0x0201, 0xFF, 0x00, 0xFF, 0xFF, 0xA0) := by decide

theorem test_tsx_V72 :
    seen (step ((start 0x0200 [0xBA]).setSp 0xFD)) = some (0x0201, 0x00, 0xFD, 0x00, 0xFD, 0xA0) := by decide

theorem test_tsx_V73 :
    seen (step (((start 0x0200 [0xBA]).setX 0x11).setSp 0x00)) = some (0x0201, 0x00, 0x00, 0x00, 0x00, 0x22) := by decide

theorem test_txs_V74 :
    seen (step (((start 0x0200 [0x9A]).setX 0xFF).setSp 0x00)) = some (0x0201, 0x00, 0xFF, 0x00, 0xFF, 0x20) := by decide

theorem test_txs_V75 :
    seen (step (((start 0x0200 [0x9A]).setSp 0x80).setN true)) = some (0x0201, 0x00, 0x00, 0x00, 0x00, 0xA0) := by decide

theorem test_bcc_V77 :
    seen (step ((start 0x0200 [0x90, 0x04]).setC true)) = some (0x0202, 0x00, 0x00, 0x00, 0xFF, 0x21) := by decide

theorem test_bcs_V79 :
    seen (step (start 0x0200 [0xB0, 0x04])) = some (0x0202, 0x00, 0x00, 0x00, 0xFF, 0x20) := by decide

theorem test_beq_V81 :
    seen (step (start 0x0200 [0xF0, 0xFE])) = some (0x0202, 0x00, 0x00, 0x00, 0xFF, 0x20) := by decide

theorem test_bne_V82 :
    seen (step (start 0x000A [0xD0, 0xF8])) = some (0x0004, 0x00, 0x00, 0x00, 0xFF, 0x20) := by decide

theorem test_bne_V83 :
    seen (step ((start 0x000A [0xD0, 0xF8]).setZ true)) = some (0x000C, 0x00, 0x00, 0x00, 0xFF, 0x22) := by decide

theorem test_bmi_V84 :
    seen (step ((start 0x0000 [0x30, 0x80]).setN true)) = some (0xFF82, 0x00, 0x00, 0x00, 0xFF, 0xA0) := by decide

theorem test_bmi_V85 :
    seen (step (start 0x0000 [0x30, 0x80])) = some (0x0002, 0x00, 0x00, 0x00, 0xFF, 0x20) := by decide

theorem test_bpl_V86 :
    seen (step (start 0xFFFD [0x10, 0x7F])) = some (0x007E, 0x00, 0x00, 0x00, 0xFF, 0x20) := by decide

theorem test_bpl_V87 :
    seen (step ((start 0xFFFD [0x10, 0x7F]).setN true)) = some (0xFFFF, 0x00, 0x00, 0x00, 0xFF, 0xA0) := by decide

theorem test_bvc_V88 :
    seen (step (start 0x0300 [0x50, 0x10])) = some (0x0312, 0x00, 0x00, 0x00, 0xFF, 0x20) := by decide

theorem test_bvc_V89 :
    seen (step ((start 0x0300 [0x50, 0x10]).setV true)) = some (0x0302, 0x00, 0x00, 0x00, 0xFF, 0x60) := by decide

theorem test_bvs_V90 :
    seen (step ((start 0x0300 [0x70, 0x10]).setV true)) = some (0x0312, 0x00, 0x00, 0x00, 0xFF, 0x60) := by decide

theorem test_bvs_V91 :
    seen (step (start 0x0300 [0x70, 0x10])) = some (0x0302, 0x00, 0x00, 0x00, 0xFF, 0x20) := by decide

theorem test_bcc_V93 :
    seen (step (start 0x1000 [0x90, 0xFB])) = some (0x0FFD, 0x00, 0x00, 0x00, 0xFF, 0x20) := by decide

theorem test_bcs_V96 :
    seen (step ((start 0x0210 [0xB0, 0x80]).setC true)) = some (0x0192, 0x00, 0x00, 0x00, 0xFF, 0x21) := by decide

theorem test_beq_V97 :
    seen (step ((start 0xFFFF [0xF0, 0x10]).setZ true)) = some (0x0011, 0x00, 0x00, 0x00, 0xFF, 0x22) := by decide

theorem test_pha_V98 :
    seen (step ((start 0x0200 [0x48]).setA 0x42)) = some (0x0201, 0x42, 0x00, 0x00, 0xFE, 0x20) ∧
    byteAfter (step ((start 0x0200 [0x48]).setA 0x42)) 0x01FF = some 0x42 := by decide

theorem test_pha_V99 :
    seen (step (((start 0x0200 [0x48]).setA 0x42).setSp 0x00)) = some (0x0201, 0x42, 0x00, 0x00, 0xFF, 0x20) ∧
    byteAfter (step (((start 0x0200 [0x48]).setA 0x42).setSp 0x00)) 0x0100 = some 0x42 := by decide

theorem test_php_V100 :
    seen (step ((start 0x0200 [0x08]).setSp 0x00)) = some (0x0201, 0x00, 0x00, 0x00, 0xFF, 0x20) ∧
    byteAfter (step ((start 0x0200 [0x08]).setSp 0x00)) 0x0100 = some 0x30 := by decide

theorem test_php_V101 :
    seen (step (((start 0x0200 [0x08]).setC true).setN true)) = some (0x0201, 0x00, 0x00, 0x00, 0xFE, 0xA1) ∧
    byteAfter (step (((start 0x0200 [0x08]).setC true).setN true)) 0x01FF = some 0xB1 := by decide

theorem test_pla_V103 :
    seen (step ((((start 0x0200 [0x68]).setA 0x55).setSp 0xFE).write 0x01FF 0x00)) = some (0x0201, 0x00, 0x00, 0x00, 0xFF, 0x22) := by decide

theorem test_pla_V104 :
    seen (step ((start 0x0200 [0x68]).write 0x0100 0x80)) = some (0x0201, 0x80, 0x00, 0x00, 0x00, 0xA0) := by decide

theorem test_plp_V105 :
    seen (step (((start 0x0200 [0x28]).setSp 0xFE).write 0x01FF 0xC3)) = some (0x0201, 0x00, 0x00, 0x00, 0xFF, 0xE3) := by decide

theorem test_plp_V107 :
    seen (step (((((((((start 0x0200 [0x28]).setSp 0xFE).setC true).setZ true).setI true).setD true).setV true).setN true).write 0x01FF 0x00)) = some (0x0201, 0x00, 0x00, 0x00, 0xFF, 0x20) := by decide

theorem test_clc_V110 :
    seen (step ((start 0x0200 [0x18]).setC true)) = some (0x0201, 0x00, 0x00, 0x00, 0xFF, 0x20) := by decide

theorem test_sec_V111 :
    seen (step (start 0x0200 [0x38])) = some (0x0201, 0x00, 0x00, 0x00, 0xFF, 0x21) := by decide

theorem test_cli_V112 :
    seen (step ((start 0x0200 [0x58]).setI true)) = some (0x0201, 0x00, 0x00, 0x00, 0xFF, 0x20) := by decide

theorem test_sei_V113 :
    seen (step (start 0x0200 [0x78])) = some (0x0201, 0x00, 0x00, 0x00, 0xFF, 0x24) := by decide

theorem test_cld_V114 :
    seen (step ((start 0x0200 [0xD8]).setD true)) = some (0x0201, 0x00, 0x00, 0x00, 0xFF, 0x20) := by decide

theorem test_sed_V115 :
    seen (step (start 0x0200 [0xF8])) = some (0x0201, 0x00, 0x00, 0x00, 0xFF, 0x28) := by decide

theorem test_clv_V116 :
    seen (step ((start 0x0200 [0xB8]).setV true)) = some (0x0201, 0x00, 0x00, 0x00, 0xFF, 0x20) := by decide

theorem test_clv_V117 :
    seen (step (((start 0x0200 [0xB8]).setC true).setN true)) = some (0x0201, 0x00, 0x00, 0x00, 0xFF, 0xA1) := by decide

theorem test_jmpAbs_V118 :
    seen (step (start 0x0200 [0x4C, 0x34, 0x12])) = some (0x1234, 0x00, 0x00, 0x00, 0xFF, 0x20) := by decide

theorem test_jsr_V121 :
    seen (step ((start 0x0300 [0x20, 0x00, 0x06]).setSp 0x00)) = some (0x0600, 0x00, 0x00, 0x00, 0xFE, 0x20) ∧
    byteAfter (step ((start 0x0300 [0x20, 0x00, 0x06]).setSp 0x00)) 0x0100 = some 0x03 ∧
    byteAfter (step ((start 0x0300 [0x20, 0x00, 0x06]).setSp 0x00)) 0x01FF = some 0x02 := by decide

theorem test_jsr_V123 :
    seen (step (start 0x01FD [0x20, 0x34, 0x12])) = some (0x1234, 0x00, 0x00, 0x00, 0xFD, 0x20) ∧
    byteAfter (step (start 0x01FD [0x20, 0x34, 0x12])) 0x01FE = some 0xFF ∧
    byteAfter (step (start 0x01FD [0x20, 0x34, 0x12])) 0x01FF = some 0x01 := by decide

theorem test_rts_V125 :
    seen (step ((((start 0x0600 [0x60]).setSp 0xFD).write 0x01FE 0xFF).write 0x01FF 0xFF)) = some (0x0000, 0x00, 0x00, 0x00, 0xFF, 0x20) := by decide

theorem test_rts_V126 :
    seen (step (((start 0x0600 [0x60]).write 0x0100 0x10).write 0x0101 0x20)) = some (0x2011, 0x00, 0x00, 0x00, 0x01, 0x20) := by decide

theorem test_rti_V128 :
    seen (step (((((start 0x0200 [0x40]).setSp 0xFC).write 0x01FD 0x81).write 0x01FE 0x00).write 0x01FF 0x04)) = some (0x0400, 0x00, 0x00, 0x00, 0xFF, 0xA1) := by decide

theorem test_rti_V129 :
    seen (step (((((start 0x0200 [0x40]).setSp 0xFE).write 0x0100 0x34).write 0x0101 0x12).write 0x01FF 0xFF)) = some (0x1234, 0x00, 0x00, 0x00, 0x01, 0xEF) := by decide

theorem test_cmpImm_V130 :
    seen (step ((start 0x0200 [0xC9, 0x41]).setA 0x40)) = some (0x0202, 0x40, 0x00, 0x00, 0xFF, 0xA0) := by decide

theorem test_cmpImm_V134 :
    seen (step ((start 0x0200 [0xC9, 0x01]).setA 0x80)) = some (0x0202, 0x80, 0x00, 0x00, 0xFF, 0x21) := by decide

theorem test_cmpIndY_V137 :
    seen (step ((((((start 0x0200 [0xD1, 0x40]).setA 0x10).setY 0x01).write 0x0040 0x00).write 0x0041 0x30).write 0x3001 0x0F)) = some (0x0202, 0x10, 0x00, 0x01, 0xFF, 0x21) := by decide

theorem test_cpxImm_V138 :
    seen (step ((start 0x0200 [0xE0, 0x10]).setX 0x10)) = some (0x0202, 0x00, 0x10, 0x00, 0xFF, 0x23) := by decide

theorem test_cpxZp_V139 :
    seen (step ((start 0x0200 [0xE4, 0x10]).write 0x0010 0x01)) = some (0x0202, 0x00, 0x00, 0x00, 0xFF, 0xA0) := by decide

theorem test_cpyImm_V140 :
    seen (step ((start 0x0200 [0xC0, 0x03]).setY 0x05)) = some (0x0202, 0x00, 0x00, 0x05, 0xFF, 0x21) := by decide

theorem test_cpyAbs_V141 :
    seen (step (((start 0x0200 [0xCC, 0x34, 0x12]).setY 0x03).write 0x1234 0x05)) = some (0x0203, 0x00, 0x00, 0x03, 0xFF, 0xA0) := by decide

theorem test_aslAcc_V143 :
    seen (step ((start 0x0200 [0x0A]).setA 0x80)) = some (0x0201, 0x00, 0x00, 0x00, 0xFF, 0x23) := by decide

theorem test_aslAcc_V144 :
    seen (step (((start 0x0200 [0x0A]).setA 0x40).setC true)) = some (0x0201, 0x80, 0x00, 0x00, 0xFF, 0xA0) := by decide

theorem test_aslZp_V145 :
    seen (step ((start 0x0200 [0x06, 0x10]).write 0x0010 0xFF)) = some (0x0202, 0x00, 0x00, 0x00, 0xFF, 0xA1) ∧
    byteAfter (step ((start 0x0200 [0x06, 0x10]).write 0x0010 0xFF)) 0x0010 = some 0xFE := by decide

theorem test_lsrZp_V146 :
    seen (step ((start 0x0200 [0x46, 0x10]).write 0x0010 0x03)) = some (0x0202, 0x00, 0x00, 0x00, 0xFF, 0x21) ∧
    byteAfter (step ((start 0x0200 [0x46, 0x10]).write 0x0010 0x03)) 0x0010 = some 0x01 := by decide

theorem test_lsrAcc_V147 :
    seen (step ((start 0x0200 [0x4A]).setA 0x01)) = some (0x0201, 0x00, 0x00, 0x00, 0xFF, 0x23) := by decide

theorem test_lsrAcc_V148 :
    seen (step (((start 0x0200 [0x4A]).setA 0xFF).setN true)) = some (0x0201, 0x7F, 0x00, 0x00, 0xFF, 0x21) := by decide

theorem test_rolAcc_V149 :
    seen (step (((start 0x0200 [0x2A]).setA 0x40).setC true)) = some (0x0201, 0x81, 0x00, 0x00, 0xFF, 0xA0) := by decide

theorem test_rolAcc_V150 :
    seen (step ((start 0x0200 [0x2A]).setA 0x80)) = some (0x0201, 0x00, 0x00, 0x00, 0xFF, 0x23) := by decide

theorem test_rolAbsX_V152 :
    seen (step ((((start 0x0200 [0x3E, 0x34, 0x12]).setX 0x01).setC true).write 0x1235 0xFF)) = some (0x0203, 0x00, 0x01, 0x00, 0xFF, 0xA1) := by decide

theorem test_rorAcc_V153 :
    seen (step (((start 0x0200 [0x6A]).setA 0x02).setC true)) = some (0x0201, 0x81, 0x00, 0x00, 0xFF, 0xA0) := by decide

theorem test_rorAcc_V154 :
    seen (step ((start 0x0200 [0x6A]).setA 0x01)) = some (0x0201, 0x00, 0x00, 0x00, 0xFF, 0x23) := by decide

theorem test_rorZp_V156 :
    seen (step ((start 0x0200 [0x66, 0x10]).write 0x0010 0x81)) = some (0x0202, 0x00, 0x00, 0x00, 0xFF, 0x21) ∧
    byteAfter (step ((start 0x0200 [0x66, 0x10]).write 0x0010 0x81)) 0x0010 = some 0x40 := by decide

theorem test_incZp_V159 :
    seen (step (((start 0x0200 [0xE6, 0x10]).setC true).write 0x0010 0xFF)) = some (0x0202, 0x00, 0x00, 0x00, 0xFF, 0x23) ∧
    byteAfter (step (((start 0x0200 [0xE6, 0x10]).setC true).write 0x0010 0xFF)) 0x0010 = some 0x00 := by decide

theorem test_incZp_V160 :
    seen (step ((start 0x0200 [0xE6, 0x10]).write 0x0010 0x7F)) = some (0x0202, 0x00, 0x00, 0x00, 0xFF, 0xA0) ∧
    byteAfter (step ((start 0x0200 [0xE6, 0x10]).write 0x0010 0x7F)) 0x0010 = some 0x80 := by decide

theorem test_incAbsX_V161 :
    seen (step (((start 0x0200 [0xFE, 0x00, 0x12]).setX 0xFF).write 0x12FF 0xFE)) = some (0x0203, 0x00, 0xFF, 0x00, 0xFF, 0xA0) ∧
    byteAfter (step (((start 0x0200 [0xFE, 0x00, 0x12]).setX 0xFF).write 0x12FF 0xFE)) 0x12FF = some 0xFF := by decide

theorem test_decAbs_V162 :
    seen (step ((start 0x0200 [0xCE, 0x00, 0x03]).write 0x0300 0x01)) = some (0x0203, 0x00, 0x00, 0x00, 0xFF, 0x22) ∧
    byteAfter (step ((start 0x0200 [0xCE, 0x00, 0x03]).write 0x0300 0x01)) 0x0300 = some 0x00 := by decide

theorem test_decZp_V163 :
    seen (step ((start 0x0200 [0xC6, 0x10]).write 0x0010 0x00)) = some (0x0202, 0x00, 0x00, 0x00, 0xFF, 0xA0) ∧
    byteAfter (step ((start 0x0200 [0xC6, 0x10]).write 0x0010 0x00)) 0x0010 = some 0xFF := by decide

theorem test_decZp_V164 :
    seen (step ((start 0x0200 [0xC6, 0x10]).write 0x0010 0x80)) = some (0x0202, 0x00, 0x00, 0x00, 0xFF, 0x20) ∧
    byteAfter (step ((start 0x0200 [0xC6, 0x10]).write 0x0010 0x80)) 0x0010 = some 0x7F := by decide

theorem test_incAbs_V165 :
    seen (step (start 0x0200 [0xEE, 0x00, 0x02])) = some (0x0203, 0x00, 0x00, 0x00, 0xFF, 0xA0) ∧
    byteAfter (step (start 0x0200 [0xEE, 0x00, 0x02])) 0x0200 = some 0xEF := by decide

theorem test_inx_V166 :
    seen (step ((start 0x0200 [0xE8]).setX 0x7F)) = some (0x0201, 0x00, 0x80, 0x00, 0xFF, 0xA0) := by decide

theorem test_inx_V167 :
    seen (step ((start 0x0200 [0xE8]).setX 0xFF)) = some (0x0201, 0x00, 0x00, 0x00, 0xFF, 0x22) := by decide

theorem test_iny_V168 :
    seen (step (start 0x0200 [0xC8])) = some (0x0201, 0x00, 0x00, 0x01, 0xFF, 0x20) := by decide

theorem test_iny_V169 :
    seen (step ((start 0x0200 [0xC8]).setY 0xFF)) = some (0x0201, 0x00, 0x00, 0x00, 0xFF, 0x22) := by decide

theorem test_dex_V170 :
    seen (step ((start 0x0200 [0xCA]).setX 0x01)) = some (0x0201, 0x00, 0x00, 0x00, 0xFF, 0x22) := by decide

theorem test_dex_V171 :
    seen (step ((start 0x0200 [0xCA]).setC true)) = some (0x0201, 0x00, 0xFF, 0x00, 0xFF, 0xA1) := by decide

theorem test_dey_V172 :
    seen (step ((start 0x0200 [0x88]).setY 0x80)) = some (0x0201, 0x00, 0x00, 0x7F, 0xFF, 0x20) := by decide

theorem test_dey_V173 :
    seen (step (start 0x0200 [0x88])) = some (0x0201, 0x00, 0x00, 0xFF, 0xFF, 0xA0) := by decide

theorem test_nop_V174 :
    seen (step ((((((start 0x0200 [0xEA]).setA 0x01).setX 0x02).setY 0x03).setC true).setN true)) = some (0x0201, 0x01, 0x02, 0x03, 0xFF, 0xA1) := by decide

theorem test_brk_V175 :
    seen (step ((start 0x000E [0x00]).setA 0x0F)) = some (0x000F, 0x0F, 0x00, 0x00, 0xFF, 0x30) := by decide

theorem test_brk_V176 :
    seen (step (start 0xFFFF [0x00])) = some (0x0000, 0x00, 0x00, 0x00, 0xFF, 0x30) := by decide

theorem test_ldaImm_V182 :
    seen (step (start 0xFFFF [0xA9, 0x77])) = some (0x0001, 0x77, 0x00, 0x00, 0xFF, 0x20) := by decide

theorem test_ldaAbs_V183 :
    seen (step ((((start 0xFFFF [0xAD]).write 0x0000 0x34).write 0x0001 0x12).write 0x1234 0xBC)) = some (0x0002, 0xBC, 0x00, 0x00, 0xFF, 0xA0) := by decide

theorem test_nop_V184 :
    seen (step (start 0xFFFF [0xEA])) = some (0x0000, 0x00, 0x00, 0x00, 0xFF, 0x20) := by decide

/-! ## Witnesses: for each statement with hypotheses, what meets them -/

/-- A Running unit with an ADC at `pc`. -/
def atAdc : State := ((start 0x0200 [0x69, 0x10]).setA 0x7F).setC true

/-- A Running unit whose three-byte STA spans the top of memory and stores to page 0. -/
def atTop : State := (start 0xFFFE [0x8D, 0x10, 0x00]).setA 0x42

/-- A unit halted by BRK. -/
def haltedByBrk : State := (start 0x0200 [0x00]).haltByBreak

/-- A unit halted by the unassigned byte 0xFF. -/
def haltedByIllegal : State := (start 0x0400 [0xFF]).raiseIllegalOpcode 0xFF 0x0400

theorem atAdc_inv : atAdc.Inv := by constructor <;> decide

theorem atTop_inv : atTop.Inv := by constructor <;> decide

theorem haltedByBrk_inv : haltedByBrk.Inv := by constructor <;> decide

theorem haltedByIllegal_inv : haltedByIllegal.Inv := by constructor <;> decide

/-- A state that meets the invariant and a step from it: Running, halted by BRK, halted by an unassigned byte, Loading. -/
theorem witness_EveryStepKeepsTheInvariant :
    (atTop.Inv ∧ step atTop = .next ({ atTop.write 0x0010 0x42 with pc := 0x0001 })) ∧
    (haltedByBrk.Inv ∧ step haltedByBrk = .next haltedByBrk) ∧
    (haltedByIllegal.Inv ∧ step haltedByIllegal = .next haltedByIllegal) ∧
    (State.reset.phase = .loading ∧ step State.reset = .next ({ State.reset.haltByBreak with pc := 1, phase := .stepping })) :=
  ⟨⟨atTop_inv, by rfl⟩, ⟨haltedByBrk_inv, by rfl⟩, ⟨haltedByIllegal_inv, by rfl⟩, by rfl, by rfl⟩

theorem witness_UnusedBitIsNeverAltered : atAdc.p.u = true ∧ haltedByBrk.p.u = true := by decide

/-- At the top of memory the bytes at `pc` wrap, and a byte follows a two-byte instruction. -/
theorem witness_StepRunsTheDecodedInstruction :
    (atTop.runState = .running ∧ decodeBytes (atTop.bytesAtPc 3) = .ok (.staAbs 0x10 0x00, [])) ∧
    (atAdc.runState = .running ∧ decodeBytes (atAdc.bytesAtPc 3) = .ok (.adcImm 0x10, [0x00])) :=
  ⟨⟨by rfl, by rfl⟩, by rfl, by rfl⟩

/-- The first and the last unassigned value. -/
theorem witness_UnassignedByteTakesTheIllegalOpcodeStep :
    ((start 0x0000 [0x02]).runState = .running ∧ (start 0x0000 [0x02]).read 0x0000 ∈ illegalBytes) ∧
    ((start 0xFFFF [0xFF]).runState = .running ∧ (start 0xFFFF [0xFF]).read 0xFFFF ∈ illegalBytes) := by decide

theorem witness_HaltedUnitNeverChanges :
    (haltedByBrk.runState = .halted ∧ haltedByBrk.phase = .stepping) ∧
    (haltedByIllegal.runState = .halted ∧ haltedByIllegal.phase = .stepping) := by decide

/-- Each of the five cases: Running on an instruction, on BRK and on an unassigned byte; halted by BRK; halted by an
unassigned byte. -/
theorem witness_StepReturnsOneOfThreeResults :
    ((atAdc.runState = .running ↔ atAdc.haltCause = .none) ∧ atAdc.read atAdc.pc ∉ illegalBytes ∧
      atAdc.read atAdc.pc ≠ 0x00) ∧
    ((State.reset.runState = .running ↔ State.reset.haltCause = .none) ∧ State.reset.read 0x0000 = 0x00) ∧
    (((start 0x0200 [0x02]).runState = .running ↔ (start 0x0200 [0x02]).haltCause = .none) ∧
      (start 0x0200 [0x02]).read 0x0200 ∈ illegalBytes) ∧
    ((haltedByBrk.runState = .running ↔ haltedByBrk.haltCause = .none) ∧ haltedByBrk.haltCause = .brk) ∧
    ((haltedByIllegal.runState = .running ↔ haltedByIllegal.haltCause = .none) ∧
      haltedByIllegal.haltCause = .illegal) := by decide

/-- A run whose second step meets an unassigned byte, and the fetch that does it. -/
theorem witness_RunIsSafeUnlessAnUnassignedByteIsFetched :
    let s := start 0x0200 [0xEA, 0x02]
    s.Inv ∧ s.runState = .running ∧ core.run 1 s = .next ({ s with pc := 0x0201 }) ∧
      ({ s with pc := 0x0201 } : State).read 0x0201 ∈ illegalBytes :=
  ⟨by constructor <;> decide, by decide, by rfl, by decide⟩

/-- Both sides: bytes that decode with a rest, and bytes that do not because they end too soon. -/
theorem witness_DecodeIsTheInverseOfEncode :
    decodeBytes [0x69, 0xFF, 0x00] = .ok (.adcImm 0xFF, [0x00]) ∧
    ([0x69, 0xFF, 0x00] : List Byte) = encode (.adcImm 0xFF) ++ [0x00] := ⟨by rfl, by rfl⟩

theorem witness_DispatchRecordFixesModeAndLength :
    decode 0x00 0xFF 0xFF = .ok .brk ∧ decode 0xFE 0xFF 0xFF = .ok (.incAbsX 0xFF 0xFF) := ⟨by rfl, by rfl⟩

theorem witness_WellFormedFormsAreTheInstructions :
    Form.wellFormed ⟨.inc, .absoluteX, 0xFF, 0xFF⟩ = true ∧
    Instr.form (.incAbsX 0xFF 0xFF) = ⟨.inc, .absoluteX, 0xFF, 0xFF⟩ := by decide

theorem witness_LoadedInstructionIsTheOneRun :
    atTop.mem.wf = true ∧ atTop.runState = .running ∧ (encode (.jmpInd 0xFF 0x02)).length = 3 := by decide

/-- One, two and three bytes, and a word shorter than its instruction. -/
theorem witness_FetchWordIsTheOneRun :
    atTop.mem.wf = true ∧ decodeTableWord 8 0xEA = some .nop ∧ decodeTableWord 16 0xFF69 = some (.adcImm 0xFF) ∧
    decodeTableWord 24 0x02FF6C = some (.jmpInd 0xFF 0x02) ∧
    decodeTableWord 8 0x02FF6C = some (.jmpInd 0x00 0x00) := by decide

theorem witness_CanonicalMemoryIsUnique :
    Memory.wf [(0x0000, 0x01), (0xFFFF, 0xFF)] = true ∧
    ∀ adr : Addr, Memory.read [(0x0000, 0x01), (0xFFFF, 0xFF)] adr.toNat =
      Memory.read [(0x0000, 0x01), (0xFFFF, 0xFF)] adr.toNat := ⟨by decide, fun _ => rfl⟩

/-- Both ends of the stack page. -/
theorem witness_PushAndPullKeepTheStackDiscipline :
    (atAdc.mem.wf = true ∧ stackByte atAdc.sp = 0x01FF) ∧
    ((atAdc.setSp 0x00).mem.wf = true ∧ stackByte (atAdc.setSp 0x00).sp = 0x0100) := by decide

theorem witness_HostLoadsInTheLoadingPhaseOnly :
    (State.reset.mem.wf = true ∧ State.reset.phase = .loading) ∧
    (atAdc.mem.wf = true ∧ atAdc.phase = .stepping) := by decide

/-- A store to the byte that the next fetch reads as opcode (V64's shape, one address on), and one elsewhere. -/
theorem witness_NextFetchSeesTheStoredByte :
    (start 0x0200 [0x8D, 0x03, 0x02]).mem.wf = true ∧
    ⟨0x8D, .absolute, .staAbs 0x03 0x02⟩ ∈ staRows 0x03 0x02 ∧
    ⟨0x91, .indirectIndexed, .staIndY 0x03⟩ ∈ staRows 0x03 0x02 := by decide

/-- The policy as it stands with `P.D` set, and `P.D` clear. -/
theorem witness_AdcAddsWithCarry :
    (Config.decimalPolicy = .binary ∨ (atAdc.setD true).p.d = false) ∧ atAdc.p.d = false ∧
    ⟨0x69, .immediate, .adcImm 0xFF⟩ ∈ adcRows 0xFF 0x00 ∧
    ⟨0x71, .indirectIndexed, .adcIndY 0xFF⟩ ∈ adcRows 0xFF 0x00 := by decide

theorem witness_SbcSubtractsWithBorrow :
    (Config.decimalPolicy = .binary ∨ (atAdc.setD true).p.d = false) ∧ atAdc.p.d = false ∧
    ⟨0xE9, .immediate, .sbcImm 0xFF⟩ ∈ sbcRows 0xFF 0x00 ∧
    ⟨0xF1, .indirectIndexed, .sbcIndY 0xFF⟩ ∈ sbcRows 0xFF 0x00 := by decide

theorem witness_DecimalPoliciesDifferOnlyInDecimalMode :
    (atAdc.setD true).p.d = true ∧ atAdc.p.d = false := by decide

theorem witness_AddAndSubtractCompleteInEveryState :
    ⟨0x69, .immediate, .adcImm 0x10⟩ ∈ adcRows 0x10 0x00 ++ sbcRows 0x10 0x00 ∧
    ⟨0xFD, .absoluteX, .sbcAbsX 0x10 0x00⟩ ∈ adcRows 0x10 0x00 ++ sbcRows 0x10 0x00 := by decide

theorem witness_LogicalInstructionsCombineIntoA :
    ⟨0x29, .immediate, .andImm 0x3C⟩ ∈ andRows 0x3C 0x00 ∧ ⟨0x0D, .absolute, .oraAbs 0x3C 0x00⟩ ∈ oraRows 0x3C 0x00 ∧
    ⟨0x51, .indirectIndexed, .eorIndY 0x3C⟩ ∈ eorRows 0x3C 0x00 := by decide

theorem witness_BitTestsWithoutWriting :
    ⟨0x24, .zeroPage, .bitZp 0x10⟩ ∈ bitRows 0x10 0x00 ∧ ⟨0x2C, .absolute, .bitAbs 0x10 0x00⟩ ∈ bitRows 0x10 0x00 := by
  decide

theorem witness_LoadsWriteTheirRegister :
    ⟨0xA9, .immediate, .ldaImm 0x80⟩ ∈ ldaRows 0x80 0x00 ∧ ⟨0xB6, .zeroPageY, .ldxZpY 0x80⟩ ∈ ldxRows 0x80 0x00 ∧
    ⟨0xBC, .absoluteX, .ldyAbsX 0x80 0x00⟩ ∈ ldyRows 0x80 0x00 := by decide

theorem witness_StoresWriteOneByte :
    atTop.mem.wf = true ∧ ⟨0x8D, .absolute, .staAbs 0x10 0x00⟩ ∈ staRows 0x10 0x00 ∧
    ⟨0x96, .zeroPageY, .stxZpY 0x10⟩ ∈ stxRows 0x10 0x00 ∧ ⟨0x8C, .absolute, .styAbs 0x10 0x00⟩ ∈ styRows 0x10 0x00 := by
  decide

theorem witness_PushInstructionsStoreOneStackByte :
    atAdc.mem.wf = true ∧ (atAdc.setSp 0x00).mem.wf = true := by decide

theorem witness_JsrPushesTheAddressOfItsLastByte :
    atTop.mem.wf = true ∧ (atTop.setSp 0x00).mem.wf = true := by decide

/-- A call, and a later state in which the two stack bytes and SP are as the call left them: the state right after. -/
theorem witness_CallThenReturnComesBack :
    let s := start 0x0300 [0x20, 0x05, 0x03]
    let t := ((s.push 0x03).push 0x02).setPc 0x0305
    s.mem.wf = true ∧ exec (.jsr 0x05 0x03) s = .next t ∧ t.sp = 0xFD ∧
    t.read (stackByte s.sp) = 0x03 ∧ t.read (stackByte (s.sp - 1)) = 0x02 :=
  ⟨by decide, by rfl, by decide, by decide, by decide⟩

theorem witness_ComparesSetCarryZeroNegative :
    ⟨0xC9, .immediate, .cmpImm 0x41⟩ ∈ cmpRows 0x41 0x00 ∧ ⟨0xE4, .zeroPage, .cpxZp 0x41⟩ ∈ cpxRows 0x41 0x00 ∧
    ⟨0xCC, .absolute, .cpyAbs 0x41 0x00⟩ ∈ cpyRows 0x41 0x00 := by decide

/-- An Accumulator form and a memory form of each. -/
theorem witness_ShiftsAndRotatesMoveOneBit :
    atAdc.mem.wf = true ∧
    ⟨0x0A, .accumulator, .aslAcc⟩ ∈ aslRows 0x10 0x00 ∧ ⟨0x1E, .absoluteX, .aslAbsX 0x10 0x00⟩ ∈ aslRows 0x10 0x00 ∧
    ⟨0x4A, .accumulator, .lsrAcc⟩ ∈ lsrRows 0x10 0x00 ∧ ⟨0x46, .zeroPage, .lsrZp 0x10⟩ ∈ lsrRows 0x10 0x00 ∧
    ⟨0x2A, .accumulator, .rolAcc⟩ ∈ rolRows 0x10 0x00 ∧ ⟨0x36, .zeroPageX, .rolZpX 0x10⟩ ∈ rolRows 0x10 0x00 ∧
    ⟨0x6A, .accumulator, .rorAcc⟩ ∈ rorRows 0x10 0x00 ∧ ⟨0x6E, .absolute, .rorAbs 0x10 0x00⟩ ∈ rorRows 0x10 0x00 := by
  decide

theorem witness_IncAndDecCountMemory :
    atAdc.mem.wf = true ∧ ⟨0xE6, .zeroPage, .incZp 0x10⟩ ∈ incRows 0x10 0x00 ∧
    ⟨0xDE, .absoluteX, .decAbsX 0x10 0x00⟩ ∈ decRows 0x10 0x00 := by decide

theorem witness_NineRotationsRestore : atTop.mem.wf = true ∧ (Place.addr 0x0010).load atTop = 0x00 ∧
    Place.acc.load atTop = 0x42 := by decide

/-- For each flag a step that changes it: ADC the Carry, Zero or Negative and Overflow, SEI, SED, BRK. -/
theorem witness_FlagsAreWrittenOnlyByTheirWriters :
    seen (exec (.adcImm 0x80) (start 0x0200 [])) = some (0x0202, 0x80, 0x00, 0x00, 0xFF, 0xA0) ∧
    seen (exec (.adcImm 0x80) ((start 0x0200 []).setA 0x80)) = some (0x0202, 0x00, 0x00, 0x00, 0xFF, 0x63) ∧
    seen (exec .sei (start 0x0200 [])) = some (0x0201, 0x00, 0x00, 0x00, 0xFF, 0x24) ∧
    seen (exec .sed (start 0x0200 [])) = some (0x0201, 0x00, 0x00, 0x00, 0xFF, 0x28) ∧
    seen (exec .brk (start 0x0200 [])) = some (0x0201, 0x00, 0x00, 0x00, 0xFF, 0x30) :=
  ⟨by decide, by decide, by decide, by decide, by decide⟩

/-- For each register a step that changes it, and an instruction that does not set `pc` itself. -/
theorem witness_RegistersAreWrittenOnlyByTheirWriters :
    seen (exec .rolAcc ((start 0x0200 []).setA 0x01)) = some (0x0201, 0x02, 0x00, 0x00, 0xFF, 0x20) ∧
    seen (exec .inx (start 0x0200 [])) = some (0x0201, 0x00, 0x01, 0x00, 0xFF, 0x20) ∧
    seen (exec .iny (start 0x0200 [])) = some (0x0201, 0x00, 0x00, 0x01, 0xFF, 0x20) ∧
    seen (exec .pha (start 0x0200 [])) = some (0x0201, 0x00, 0x00, 0x00, 0xFE, 0x20) ∧
    Instr.mnemonic .inx ∉ setsPc ∧
    verdict (exec .brk (start 0x0200 [])) = some (.halt, none) :=
  ⟨by decide, by decide, by decide, by decide, by decide, by decide⟩

/-- One stored address, two, and none. -/
theorem witness_MemoryChangesOnlyAtStoredAddresses :
    atTop.mem.wf = true ∧ storedAddresses (.staAbs 0x10 0x00) atTop = [0x0010] ∧
    (0x0011 : Addr) ∉ storedAddresses (.staAbs 0x10 0x00) atTop ∧
    storedAddresses (.jsr 0x10 0x00) atTop = [0x01FF, 0x01FE] ∧ storedAddresses .aslAcc atTop = [] ∧
    storedAddresses (.incZpX 0xFF) (atTop.setX 0x02) = [0x0001] := by decide

theorem witness_InterruptAndDecimalFlagsAreStorageOnly :
    Instr.mnemonic (.adcImm 0x10) ∉ [.sei, .cli, .sed, .cld, .php, .plp, .rti] ∧
    (atAdc.setI true).setD true ≠ atAdc := by decide

theorem witness_ControlStateIsReadByNoInstruction :
    Instr.nop ≠ .brk ∧ ({ atAdc with runState := .halted, haltCause := .illegal } : State) ≠ atAdc := by decide

theorem witness_DefaultPolicyGivesTheHostsMachine :
    seen (stepUnder .binary (atAdc.setD true)) = some (0x0202, 0x90, 0x00, 0x00, 0xFF, 0xE8) := by decide

/-- Both branches: a decimal ADC, and an ADC with `P.D` clear. -/
theorem witness_RefusePolicyStopsDecimalAddAndSubtractOnly :
    (Instr.mnemonic (.adcImm 0x10) = .adc ∧ (atAdc.setD true).p.d = true) ∧ atAdc.p.d = false := by decide

theorem witness_AddAndSubtractUnderEitherPolicyComplete :
    atAdc.p.d = false ∧ (atAdc.setD true).p.d = true ∧
    ⟨0x69, .immediate, .adcImm 0x10⟩ ∈ adcRows 0x10 0x00 ++ sbcRows 0x10 0x00 ∧
    ⟨0xFD, .absoluteX, .sbcAbsX 0x10 0x00⟩ ∈ adcRows 0x10 0x00 ++ sbcRows 0x10 0x00 := by decide

/-- A step that stops, and three that do not: `P.D` clear, another instruction, a Halted unit. -/
theorem witness_StepUnderRefuseStopsOnDecimalAddAndSubtractOnly :
    ((atAdc.setD true).runState = .running ∧ (atAdc.setD true).p.d = true ∧
      (atAdc.setD true).fetchDecode = .ok (.adcImm 0x10)) ∧
    atAdc.p.d = false ∧ (atTop.setD true).fetchDecode = .ok (.staAbs 0x10 0x00) ∧
    (haltedByBrk.setD true).runState = .halted :=
  ⟨⟨by decide, by decide, by rfl⟩, by decide, by rfl, by decide⟩

theorem witness_EveryStepUnderEitherPolicyKeepsTheInvariant :
    (atTop.Inv ∧ stepUnder .refuse atTop = .next ({ atTop.write 0x0010 0x42 with pc := 0x0001 })) ∧
    (haltedByIllegal.Inv ∧ stepUnder .refuse haltedByIllegal = .next haltedByIllegal) :=
  ⟨⟨atTop_inv, by rfl⟩, haltedByIllegal_inv, by rfl⟩

end Sys2Proof.Tests
end

/-! PROOFS, family 00_scope: what every step keeps, the load of an instruction, the open parameter, the host's load. -/

namespace Sys2Proof.Machine

open Sys2Proof

/-! ## What a step that answers a next state does -/

/-- Whatever the reason a decode is rejected for, the byte has no dispatch record (R74, R80). -/
theorem dispatchRom_of_decode_error {op b1 b2 : Byte} {r : DecodeReject}
    (h : decode op b1 b2 = .error r) : dispatchRom op = none := by
  refine (decode_error_iff op b1 b2).mp ?_
  unfold decode at h ⊢
  split at h
  · cases h
  · rfl

/-- The inversion of a step (R75, R76, R222): a Halted unit enters the Stepping phase and no more; a Running one executes
the decoded instruction as at the default policy, or takes the illegal-opcode step on an unassigned byte. -/
theorem stepUnder_next_cases {policy : DecimalPolicy} {s t : State} (h : stepUnder policy s = .next t) :
    (s.runState = .halted ∧ t = s.beginStep) ∨
    (s.runState = .running ∧ ∃ i, s.fetchDecode = .ok i ∧ exec i s.beginStep = .next t) ∨
    (s.runState = .running ∧ dispatchRom (s.read s.pc) = none ∧
      t = s.beginStep.raiseIllegalOpcode (s.read s.pc) s.pc) := by
  rw [stepUnder_eq] at h
  cases hr : s.runState with
  | halted =>
    rw [hr] at h
    cases h
    exact .inl ⟨rfl, rfl⟩
  | running =>
    cases hd : s.fetchDecode with
    | ok i =>
      rw [hr, hd] at h
      exact .inr (.inl ⟨rfl, i, rfl, exec_of_execUnder h⟩)
    | error r =>
      rw [hr, hd] at h
      cases h
      have unassigned := dispatchRom_of_decode_error hd
      rw [State.after_zero] at unassigned
      exact .inr (.inr ⟨rfl, unassigned, rfl⟩)

/-! ## The invariant, through each thing a step can do -/

section Invariant

variable {s t : State}

/-- Entering the Stepping phase (R35) touches no other part of the invariant. -/
theorem State.Inv.beginStep (hi : s.Inv) : s.beginStep.Inv :=
  { hi with loadingRuns := fun h => by cases h }

/-- A Running state has no halt cause, so neither Break nor a fault report (R30, R34). -/
theorem State.Inv.haltCause_of_running (hi : s.Inv) (hr : s.runState = .running) : s.haltCause = .none :=
  hi.runningIff.mp hr

theorem State.Inv.of_quiet (hi : s.Inv) (hr : s.runState = .running) (q : Quiet s t) : t.Inv where
  memWf := q.memWf hi.memWf
  unusedSet := q.u.trans hi.unusedSet
  runningIff := by rw [q.runState, q.haltCause]; exact hi.runningIff
  breakIff := by rw [q.b, q.haltCause]; exact hi.breakIff
  noReport := by rw [q.haltCause, q.faultOpcode, q.faultPc]; exact hi.noReport
  report := by simp [q.haltCause, hi.haltCause_of_running hr]
  loadingRuns := by rw [q.phase, q.runState]; exact hi.loadingRuns

/-- The halt of BRK (R221) sets Break together with its halt cause; the fault report stays as reset left it. -/
theorem State.Inv.haltByBreak_advance (hi : s.Inv) (hr : s.runState = .running)
    (hp : s.phase = .stepping) (n : Nat) : (s.haltByBreak.advance n).Inv where
  memWf := hi.memWf
  unusedSet := hi.unusedSet
  runningIff := by simp
  breakIff := by simp
  noReport := fun _ => hi.noReport (by simp [hi.haltCause_of_running hr])
  report := by simp
  loadingRuns := by simp [hp]

/-- The illegal-opcode step (R222) reports the byte at `pc` and leaves `pc` and memory alone. -/
theorem State.Inv.raiseIllegalOpcode (hi : s.Inv) (hr : s.runState = .running)
    (hp : s.phase = .stepping) (hd : dispatchRom (s.read s.pc) = none) :
    (s.raiseIllegalOpcode (s.read s.pc) s.pc).Inv where
  memWf := hi.memWf
  unusedSet := hi.unusedSet
  runningIff := by simp
  breakIff := by simp [hi.breakIff, hi.haltCause_of_running hr]
  noReport := by simp
  report := fun _ => ⟨rfl, rfl, hd⟩
  loadingRuns := by simp [hp]

/-- An instruction executed while Running, in the Stepping phase: BRK halts, every other one is quiet. -/
theorem State.Inv.of_exec {i : Instr} (hi : s.Inv) (hr : s.runState = .running) (hp : s.phase = .stepping)
    (h : exec i s = .next t) : t.Inv := by
  by_cases hb : i = .brk
  · subst hb
    rw [exec_brk] at h
    cases h
    exact hi.haltByBreak_advance hr hp 1
  · obtain ⟨t', ht', quiet⟩ := exec_quiet i s hb
    cases ht'.symm.trans h
    exact hi.of_quiet hr quiet

/-- Every step under either policy that leads to a state keeps the invariant. -/
theorem State.Inv.of_stepUnder {policy : DecimalPolicy} (hi : s.Inv) (h : stepUnder policy s = .next t) :
    t.Inv := by
  obtain ⟨-, rfl⟩ | ⟨hr, i, -, hexec⟩ | ⟨hr, hd, rfl⟩ := stepUnder_next_cases h
  · exact hi.beginStep
  · exact hi.beginStep.of_exec hr rfl hexec
  · exact hi.beginStep.raiseIllegalOpcode hr rfl hd

end Invariant

/-! ## The load of an instruction at `pc` -/

/-- The encoding has one, two or three bytes; the fetch after storing that many reads them, then the old bytes, and the
decoder's row for the opcode gives the instruction back (R70, R78). -/
theorem State.fetchDecode_storeAtPc_encode {s : State} (h : s.mem.wf = true) (i : Instr) :
    (s.storeAtPc (encode i)).fetchDecode = .ok i := by
  cases i <;>
    simp [encode, State.fetchDecode_storeAtPc_one h, State.fetchDecode_storeAtPc_two h,
      State.fetchDecode_storeAtPc_three h]

@[simp] theorem State.storeAtPc_pc (s : State) (bs : List Byte) : (s.storeAtPc bs).pc = s.pc := by
  rw [State.storeAtPc_eq]

@[simp] theorem State.storeAtPc_p (s : State) (bs : List Byte) : (s.storeAtPc bs).p = s.p := by
  rw [State.storeAtPc_eq]

@[simp] theorem State.storeAtPc_runState (s : State) (bs : List Byte) :
    (s.storeAtPc bs).runState = s.runState := by
  rw [State.storeAtPc_eq]

/-! ## The default policy -/

theorem execUnder_binary (i : Instr) (s : State) : execUnder .binary i s = exec i s := by
  cases i <;> rfl

theorem stepUnder_binary : stepUnder .binary = step :=
  funext fun _ => stepWith_congr fun i _ => execUnder_binary i _

theorem coreUnder_binary : coreUnder .binary = core := by
  rw [coreUnder, stepUnder_binary]; rfl

/-! ## The host's load -/

theorem hostLoad_of_loading {s : State} (h : s.phase = .loading) (adr : Addr) (v : Byte) :
    hostLoad adr v s = .next (s.write adr v) := by
  rw [hostLoad, h]

theorem hostLoad_of_stepping {s : State} (h : s.phase = .stepping) (adr : Addr) (v : Byte) :
    hostLoad adr v s = .refused .hostWriteAfterFirstStep := by
  rw [hostLoad, h]

/-- A write stores its byte, no other, and keeps memory canonical (R51). -/
theorem State.oneByteStored_write {s : State} (h : s.mem.wf = true) (adr : Addr) (v : Byte) :
    Claims.OneByteStored s (s.write adr v) adr v :=
  ⟨State.read_write_same adr v h, fun _ ne => State.read_write_other v h ne, State.wf_write adr v h⟩

end Sys2Proof.Machine

namespace Sys2Proof.Proofs

open Sys2Proof Sys2Proof.Machine

/-- Settles O58: the inversion of the step, and the invariant through each of its three cases. -/
theorem everyStepUnderEitherPolicyKeepsTheInvariant :
    Obligations.EveryStepUnderEitherPolicyKeepsTheInvariant :=
  fun _ _ _ hi h => hi.of_stepUnder h

/-- Settles O16: the fetch after the load decodes to the instruction, and the load changes memory alone. -/
theorem loadedInstructionIsTheOneRun : Obligations.LoadedInstructionIsTheOneRun := by
  intro s i hwf hr t
  have running : t.runState = .running := (s.storeAtPc_runState _).trans hr
  exact ⟨step_of_decoded running (State.fetchDecode_storeAtPc_encode hwf i),
    s.storeAtPc_pc _, s.storeAtPc_p _⟩

/-- Settles O54: the meanings agree instruction by instruction, hence the steps, hence the machines. -/
theorem defaultPolicyGivesTheHostsMachine : Obligations.DefaultPolicyGivesTheHostsMachine :=
  ⟨rfl, execUnder_binary, congrFun stepUnder_binary, coreUnder_binary⟩

/-- Settles O20: in the Loading phase the load is one write; in the Stepping phase it is refused. -/
theorem hostLoadsInTheLoadingPhaseOnly : Obligations.HostLoadsInTheLoadingPhaseOnly := by
  refine ⟨rfl, fun s adr v hwf => ⟨fun loading => ?_, fun stepping => hostLoad_of_stepping stepping adr v⟩⟩
  exact ⟨s.write adr v, hostLoad_of_loading loading adr v, State.oneByteStored_write hwf adr v, rfl,
    State.read_write_same adr v hwf⟩

end Sys2Proof.Proofs

/-! PROOFS, family 10_state: reset and the invariant, canonical memory, what an instruction writes and reads. -/

namespace Sys2Proof.Machine

open Sys2Proof Sys2Proof.Claims

/-! ## Canonical memory is determined by its reads -/

theorem Memory.wfFrom_cons {low k : Nat} {w : Byte} {rest : Memory} :
    Memory.wfFrom low ((k, w) :: rest) = true ↔
      low ≤ k ∧ k < 65536 ∧ w ≠ Memory.unlisted ∧ Memory.wfFrom (k + 1) rest = true := by
  simp [Memory.wfFrom, and_assoc]

@[simp] theorem Memory.read_cons_self (k : Nat) (w : Byte) (rest : Memory) :
    Memory.read ((k, w) :: rest) k = w := by
  simp [Memory.read]

/-- A byte that differs from the reset contents stands at or above the lower bound of the list. -/
theorem Memory.le_of_read_ne {m : Memory} {low adr : Nat} (h : Memory.wfFrom low m = true)
    (ne : Memory.read m adr ≠ Memory.unlisted) : low ≤ adr :=
  Nat.le_of_not_lt fun lt => ne (Memory.read_below h lt)

/-- The first listed address of one list is at or above that of any other that reads alike. -/
theorem Memory.head_le_head {low k k' : Nat} {w w' : Byte} {rest rest' : Memory}
    (h : Memory.wfFrom low ((k, w) :: rest) = true) (h' : Memory.wfFrom low ((k', w') :: rest') = true)
    (alike : ∀ adr < 65536, Memory.read ((k, w) :: rest) adr = Memory.read ((k', w') :: rest') adr) :
    k' ≤ k := by
  obtain ⟨-, hk, hw, -⟩ := Memory.wfFrom_cons.mp h
  obtain ⟨-, hk', hw', hrest'⟩ := Memory.wfFrom_cons.mp h'
  refine Memory.le_of_read_ne (Memory.wfFrom_cons.mpr ⟨Nat.le_refl k', hk', hw', hrest'⟩) ?_
  rwa [← alike k hk, Memory.read_cons_self]

/-- An empty list reads the reset contents everywhere, which the first listed byte of another is not. -/
theorem Memory.not_nil_alike_cons {low k : Nat} {w : Byte} {rest : Memory}
    (h : Memory.wfFrom low ((k, w) :: rest) = true) :
    ¬ ∀ adr < 65536, Memory.read [] adr = Memory.read ((k, w) :: rest) adr := by
  intro alike
  obtain ⟨-, hk, hw, -⟩ := Memory.wfFrom_cons.mp h
  exact hw (by simpa using (alike k hk).symm)

/-- Below the cells of equal first address, the rests read alike: at or under that address both read the reset
contents, above it the whole lists read the rests. -/
theorem Memory.rest_alike {k : Nat} {w : Byte} {rest rest' : Memory}
    (hrest : Memory.wfFrom (k + 1) rest = true) (hrest' : Memory.wfFrom (k + 1) rest' = true)
    (alike : ∀ adr < 65536, Memory.read ((k, w) :: rest) adr = Memory.read ((k, w) :: rest') adr)
    (adr : Nat) (lt : adr < 65536) : Memory.read rest adr = Memory.read rest' adr := by
  by_cases e : k = adr
  · rw [Memory.read_below hrest (by omega), Memory.read_below hrest' (by omega)]
  · simpa [Memory.read, e] using alike adr lt

theorem Memory.eq_of_alike {m m' : Memory} {low : Nat} (h : Memory.wfFrom low m = true)
    (h' : Memory.wfFrom low m' = true)
    (alike : ∀ adr < 65536, Memory.read m adr = Memory.read m' adr) : m = m' := by
  induction m generalizing m' low with
  | nil =>
    cases m' with
    | nil => rfl
    | cons cell' rest' => exact absurd alike (Memory.not_nil_alike_cons h')
  | cons cell rest ih =>
    cases m' with
    | nil => exact absurd (fun adr lt => (alike adr lt).symm) (Memory.not_nil_alike_cons h)
    | cons cell' rest' =>
      obtain ⟨k, w⟩ := cell
      obtain ⟨k', w'⟩ := cell'
      obtain ⟨-, hk, -, hrest⟩ := Memory.wfFrom_cons.mp h
      obtain ⟨-, -, -, hrest'⟩ := Memory.wfFrom_cons.mp h'
      obtain rfl : k = k' := Nat.le_antisymm
        (Memory.head_le_head h' h fun adr lt => (alike adr lt).symm) (Memory.head_le_head h h' alike)
      obtain rfl : w = w' := by simpa using alike k hk
      rw [ih hrest hrest' (Memory.rest_alike hrest hrest' alike)]

/-! ## Reset -/

theorem State.reset_inv : State.reset.Inv where
  memWf := rfl
  unusedSet := rfl
  runningIff := by simp [State.reset]
  breakIff := by simp [State.reset, Status.reset]
  noReport := fun _ => ⟨rfl, rfl⟩
  report := fun h => by cases h
  loadingRuns := fun _ => rfl

/-- With `SP` zero a push goes to the first byte of the stack page (R40, R62). -/
theorem State.read_push_of_sp_zero {s : State} (h : s.mem.wf = true) (hsp : s.sp = 0) (v : Byte) :
    (s.push v).read 0x0100 = v := by
  have first : stackAddr s.sp = 0x0100 := by rw [hsp]; rfl
  rw [State.read_push v h, first, if_pos rfl]

/-! ## What no instruction writes -/

/-- Said of a next state: BRK's is the halt, every other instruction's is reached quietly. -/
theorem exec_brk_or_quiet {i : Instr} {s t : State} (h : exec i s = .next t) :
    (i = .brk ∧ t = s.haltByBreak.advance 1) ∨ Quiet s t := by
  by_cases hb : i = .brk
  · subst hb
    cases (exec_brk s).symm.trans h
    exact .inl ⟨rfl, rfl⟩
  · obtain ⟨t', ht', quiet⟩ := exec_quiet i s hb
    cases ht'.symm.trans h
    exact .inr quiet

theorem mnemonic_eq_brk_of_not_quiet {i : Instr} {s t : State} (h : exec i s = .next t)
    (nq : ¬ Quiet s t) : i.mnemonic = .brk := by
  obtain ⟨rfl, -⟩ := (exec_brk_or_quiet h).resolve_right nq
  rfl

theorem exec_keeps_unused {i : Instr} {s t : State} (h : exec i s = .next t) : t.p.u = s.p.u := by
  obtain ⟨-, rfl⟩ | quiet := exec_brk_or_quiet h
  · rfl
  · exact quiet.u

theorem exec_keeps_report_and_phase {i : Instr} {s t : State} (h : exec i s = .next t) :
    t.faultOpcode = s.faultOpcode ∧ t.faultPc = s.faultPc ∧ t.phase = s.phase := by
  obtain ⟨-, rfl⟩ | quiet := exec_brk_or_quiet h
  · exact ⟨rfl, rfl, rfl⟩
  · exact ⟨quiet.faultOpcode, quiet.faultPc, quiet.phase⟩

/-- Every instruction answers a next state; for ADC and SBC under the default policy (log 3). -/
theorem exec_completes (i : Instr) (s : State) : ∃ t, exec i s = .next t := by
  by_cases hb : i = .brk
  · exact ⟨_, hb ▸ exec_brk s⟩
  · obtain ⟨t, ht, -⟩ := exec_quiet i s hb
    exact ⟨t, ht⟩

theorem step_keeps_unused (s : State) : ∃ t, step s = .next t ∧ t.p.u = s.p.u := by
  cases hr : s.runState with
  | halted => exact ⟨_, step_halted hr, rfl⟩
  | running =>
    cases hd : s.fetchDecode with
    | error r => exact ⟨_, step_of_rejected hr hd, rfl⟩
    | ok i =>
      obtain ⟨t, ht⟩ := exec_completes i s.beginStep
      have same := exec_keeps_unused ht
      exact ⟨t, (step_of_decoded hr hd).trans ht, same⟩

/-! ## The instruction as a mnemonic on a resolved operand (R75) -/

/-- `opnd` of R75: the operand that the resolver gives for the instruction at `pc`. -/
def operandOf (i : Instr) (s : State) : Operand :=
  resolve i.mode i.form.b1 i.form.b2 (s.after i.length) s

/-- The byte that `Load` gives (R104); 0x00 for the one shape on which the spec does not define it. -/
def Operand.value (o : Operand) (s : State) : Byte := (o.load s).getD 0

/-- The effective address, or the target of a branch, jump or call; 0x0000 where the operand has none. -/
def Operand.address : Operand → Addr
  | .addr ea => ea
  | .implied | .acc | .imm _ => 0

/-- The read-write location that a read-modify-write mnemonic works on (R200). -/
def Operand.place : Operand → Place
  | .acc => .acc
  | o => .addr o.address

/-- "Execute the pseudocode of the mnemonic's rule with `opnd`" (R75), for an instruction of `len` bytes: one line
over the shared operations for each mnemonic. A transfer, a pull of `A` and an index count are loads of their value. -/
def perform (m : Mnemonic) (o : Operand) (len : Nat) (s : State) : Result :=
  match m with
  | .adc => adc Config.decimalPolicy (o.value s) len s
  | .sbc => sbc Config.decimalPolicy (o.value s) len s
  | .and => logicalResult (s.a &&& o.value s) len s
  | .ora => logicalResult (s.a ||| o.value s) len s
  | .eor => logicalResult (s.a ^^^ o.value s) len s
  | .bit => bitTest (o.value s) len s
  | .lda => lda (o.value s) len s
  | .ldx => ldx (o.value s) len s
  | .ldy => ldy (o.value s) len s
  | .sta => storeByte s.a o.address len s
  | .stx => storeByte s.x o.address len s
  | .sty => storeByte s.y o.address len s
  | .tax => ldx s.a len s
  | .tay => ldy s.a len s
  | .txa => lda s.x len s
  | .tya => lda s.y len s
  | .tsx => ldx s.sp len s
  | .txs => .next ((s.setSp s.x).advance len)
  | .bcc => jumpTo (if s.p.c then s.after len else o.address) s
  | .bcs => jumpTo (if s.p.c then o.address else s.after len) s
  | .beq => jumpTo (if s.p.z then o.address else s.after len) s
  | .bne => jumpTo (if s.p.z then s.after len else o.address) s
  | .bmi => jumpTo (if s.p.n then o.address else s.after len) s
  | .bpl => jumpTo (if s.p.n then s.after len else o.address) s
  | .bvc => jumpTo (if s.p.v then s.after len else o.address) s
  | .bvs => jumpTo (if s.p.v then o.address else s.after len) s
  | .pha => .next ((s.push s.a).advance len)
  | .php => .next ((s.push (packP true s.p)).advance len)
  | .pla => lda s.pulled len s.pull
  | .plp => .next ((s.pull.setP (unpackP s.pulled s.p)).advance len)
  | .clc => .next ((s.setC false).advance len)
  | .sec => .next ((s.setC true).advance len)
  | .cli => .next ((s.setI false).advance len)
  | .sei => .next ((s.setI true).advance len)
  | .cld => .next ((s.setD false).advance len)
  | .sed => .next ((s.setD true).advance len)
  | .clv => .next ((s.setV false).advance len)
  | .jmp => jumpTo o.address s
  | .jsr => callTo o.address s
  | .rts => execRts s
  | .rti => execRti s
  | .cmp => compareWith s.a (o.value s) len s
  | .cpx => compareWith s.x (o.value s) len s
  | .cpy => compareWith s.y (o.value s) len s
  | .asl => asl o.place len s
  | .lsr => lsr o.place len s
  | .rol => rol o.place len s
  | .ror => ror o.place len s
  | .inc => inc o.place len s
  | .dec => dec o.place len s
  | .inx => ldx (s.x + 1) len s
  | .iny => ldy (s.y + 1) len s
  | .dex => ldx (s.x - 1) len s
  | .dey => ldy (s.y - 1) len s
  | .nop => .next (s.advance len)
  | .brk => .next (s.haltByBreak.advance len)

/-- A branch is a jump to its target or to the next instruction (R150). -/
theorem branchIf_eq (cond : Bool) (b1 : Byte) (s : State) :
    branchIf cond b1 s = jumpTo (if cond then eaRelative b1 (s.after 2) else s.after 2) s := by
  cases cond <;> rfl

theorem branchIf_not_eq (cond : Bool) (b1 : Byte) (s : State) :
    branchIf (!cond) b1 s = jumpTo (if cond then s.after 2 else eaRelative b1 (s.after 2)) s := by
  cases cond <;> rfl

/-- Every instruction is its mnemonic performed on its resolved operand, so a proof about all 151 encodings splits on the
56 mnemonics. -/
theorem exec_eq_perform (i : Instr) (s : State) :
    exec i s = perform i.mnemonic (operandOf i s) i.length s := by
  cases i with
  | bcc b1 => exact branchIf_not_eq s.p.c b1 s
  | bcs b1 => exact branchIf_eq s.p.c b1 s
  | beq b1 => exact branchIf_eq s.p.z b1 s
  | bne b1 => exact branchIf_not_eq s.p.z b1 s
  | bmi b1 => exact branchIf_eq s.p.n b1 s
  | bpl b1 => exact branchIf_not_eq s.p.n b1 s
  | bvc b1 => exact branchIf_not_eq s.p.v b1 s
  | bvs b1 => exact branchIf_eq s.p.v b1 s
  | _ => rfl

theorem eq_brk_of_mnemonic {i : Instr} (h : i.mnemonic = .brk) : i = .brk := by
  cases i with
  | brk => rfl
  | _ => cases h

/-! ## Which mnemonics write a flag, which a register -/

/-- R27's column for Carry. -/
def carryWriters : List Mnemonic :=
  [.adc, .sbc, .cmp, .cpx, .cpy, .asl, .lsr, .rol, .ror, .clc, .sec, .plp, .rti]

/-- R27's column for Zero and Negative. -/
def zeroNegativeWriters : List Mnemonic :=
  [.adc, .sbc, .and, .ora, .eor, .bit, .lda, .ldx, .ldy, .tax, .tay, .txa, .tya, .tsx, .pla, .plp, .rti,
   .cmp, .cpx, .cpy, .asl, .lsr, .rol, .ror, .inc, .dec, .inx, .iny, .dex, .dey]

/-- R27's column for Overflow. -/
def overflowWriters : List Mnemonic := [.adc, .sbc, .bit, .clv, .plp, .rti]

/-- R27's column for InterruptDisable. -/
def interruptWriters : List Mnemonic := [.sei, .cli, .plp, .rti]

/-- R27's column for Decimal. -/
def decimalWriters : List Mnemonic := [.sed, .cld, .plp, .rti]

/-- Each flag of `q` is that of `p` unless R27's column names the mnemonic. A field is given for a flag that the mnemonic
does write. Break and Unused are in `Quiet`. -/
structure FlagsWrittenBy (m : Mnemonic) (p q : Status) : Prop where
  c : q.c = p.c ∨ m ∈ carryWriters := by exact .inl rfl
  zn : (q.z = p.z ∧ q.n = p.n) ∨ m ∈ zeroNegativeWriters := by exact .inl ⟨rfl, rfl⟩
  i : q.i = p.i ∨ m ∈ interruptWriters := by exact .inl rfl
  d : q.d = p.d ∨ m ∈ decimalWriters := by exact .inl rfl
  v : q.v = p.v ∨ m ∈ overflowWriters := by exact .inl rfl

/-- R27's "written by" column, mnemonic by mnemonic. -/
theorem perform_flags (m : Mnemonic) (o : Operand) (len : Nat) (s : State) :
    ∃ t, perform m o len s = .next t ∧ FlagsWrittenBy m s.p t.p := by
  cases m with
  | adc | sbc => exact ⟨_, rfl, { c := .inr (by decide), zn := .inr (by decide), v := .inr (by decide) }⟩
  | bit => exact ⟨_, rfl, { zn := .inr (by decide), v := .inr (by decide) }⟩
  | and | ora | eor | lda | ldx | ldy | tax | tay | txa | tya | tsx | pla | inx | iny | dex | dey =>
    exact ⟨_, rfl, { zn := .inr (by decide) }⟩
  | cmp | cpx | cpy => exact ⟨_, rfl, { c := .inr (by decide), zn := .inr (by decide) }⟩
  | asl | lsr | rol | ror => cases o <;> exact ⟨_, rfl, { c := .inr (by decide), zn := .inr (by decide) }⟩
  | inc | dec => cases o <;> exact ⟨_, rfl, { zn := .inr (by decide) }⟩
  | clc | sec => exact ⟨_, rfl, { c := .inr (by decide) }⟩
  | cli | sei => exact ⟨_, rfl, { i := .inr (by decide) }⟩
  | cld | sed => exact ⟨_, rfl, { d := .inr (by decide) }⟩
  | clv => exact ⟨_, rfl, { v := .inr (by decide) }⟩
  | plp | rti =>
    exact ⟨_, rfl, { c := .inr (by decide), zn := .inr (by decide), i := .inr (by decide),
                     d := .inr (by decide), v := .inr (by decide) }⟩
  | sta | stx | sty | txs | bcc | bcs | beq | bne | bmi | bpl | bvc | bvs | pha | php | jmp | jsr | rts
  | nop | brk => exact ⟨_, rfl, {}⟩

theorem exec_flags (i : Instr) (s : State) :
    ∃ t, exec i s = .next t ∧ FlagsWrittenBy i.mnemonic s.p t.p := by
  rw [exec_eq_perform]
  exact perform_flags i.mnemonic (operandOf i s) i.length s

/-- Each register of `t` is that of `s` unless the mnemonic is one that writes it (R21 to R24), or the operand is the
accumulator, and `pc` is the next instruction unless the mnemonic sets it (R26). A field is given for a register that the
mnemonic does write. -/
structure RegistersWrittenBy (m : Mnemonic) (o : Operand) (len : Nat) (s t : State) : Prop where
  a : t.a = s.a ∨ m ∈ [.adc, .sbc, .and, .ora, .eor, .lda, .pla, .txa, .tya] ∨ o = .acc := by exact .inl rfl
  x : t.x = s.x ∨ m ∈ [.ldx, .tax, .tsx, .inx, .dex] := by exact .inl rfl
  y : t.y = s.y ∨ m ∈ [.ldy, .tay, .iny, .dey] := by exact .inl rfl
  sp : t.sp = s.sp ∨ m ∈ [.pha, .php, .jsr, .pla, .plp, .rts, .rti, .txs] := by exact .inl rfl
  pc : m ∉ setsPc → t.pc = s.after len := by exact fun _ => rfl

theorem perform_registers (m : Mnemonic) (o : Operand) (len : Nat) (s : State) :
    ∃ t, perform m o len s = .next t ∧ RegistersWrittenBy m o len s t := by
  cases m with
  | adc | sbc | and | ora | eor | lda | txa | tya => exact ⟨_, rfl, { a := .inr (.inl (by decide)) }⟩
  | pla => exact ⟨_, rfl, { a := .inr (.inl (by decide)), sp := .inr (by decide) }⟩
  | ldx | tax | tsx | inx | dex => exact ⟨_, rfl, { x := .inr (by decide) }⟩
  | ldy | tay | iny | dey => exact ⟨_, rfl, { y := .inr (by decide) }⟩
  | pha | php | plp | txs => exact ⟨_, rfl, { sp := .inr (by decide) }⟩
  | bcc | bcs | beq | bne | bmi | bpl | bvc | bvs | jmp =>
    exact ⟨_, rfl, { pc := fun h => absurd (by decide) h }⟩
  | jsr | rts | rti => exact ⟨_, rfl, { sp := .inr (by decide), pc := fun h => absurd (by decide) h }⟩
  | asl | lsr | rol | ror | inc | dec =>
    cases o with
    | acc => exact ⟨_, rfl, { a := .inr (.inr rfl) }⟩
    | implied | imm _ | addr _ => exact ⟨_, rfl, {}⟩
  | bit | cmp | cpx | cpy | sta | stx | sty | clc | sec | cli | sei | cld | sed | clv | nop | brk =>
    exact ⟨_, rfl, {}⟩

theorem exec_registers (i : Instr) (s : State) :
    ∃ t, exec i s = .next t ∧ RegistersWrittenBy i.mnemonic (operandOf i s) i.length s t := by
  rw [exec_eq_perform]
  exact perform_registers i.mnemonic (operandOf i s) i.length s

/-- Only the Accumulator mode gives the accumulator for an operand (R92). -/
theorem mode_of_operandOf_acc {i : Instr} {s : State} (h : operandOf i s = .acc) : i.mode = .accumulator := by
  unfold operandOf at h
  cases hm : i.mode with
  | accumulator => rfl
  | _ => rw [hm] at h; cases h

/-- The mnemonics with an encoding in Accumulator mode (R79): INC and DEC have none. -/
theorem mnemonic_of_accumulator {i : Instr} (h : i.mode = .accumulator) :
    i.mnemonic ∈ [.asl, .lsr, .rol, .ror] := by
  cases i with
  | aslAcc | lsrAcc | rolAcc | rorAcc => decide
  | _ => cases h

/-! ## What an instruction reads -/

/-- The resolver reads `pc`, the index registers and memory (R90). -/
theorem operandOf_congr {s t : State} (i : Instr) (hpc : t.pc = s.pc) (hx : t.x = s.x) (hy : t.y = s.y)
    (hmem : t.mem = s.mem) : operandOf i t = operandOf i s := by
  have read16 (lo hi : Addr) : t.read16 lo hi = s.read16 lo hi := by
    simp only [State.read16, State.read_congr hmem]
  unfold operandOf
  cases i.mode <;>
    simp [resolve, eaZeroPageX, eaZeroPageY, eaAbsoluteX, eaAbsoluteY, eaIndirect, eaIndexedIndirect,
      eaIndirectIndexed, State.after_eq hpc, hx, hy, read16]

/-- A mnemonic that neither writes nor pushes InterruptDisable and Decimal does not read them (R30, R112). -/
theorem perform_setI_setD {m : Mnemonic} (hm : m ∉ [.sei, .cli, .sed, .cld, .php, .plp, .rti]) (o : Operand)
    (len : Nat) (s : State) (vi vd : Bool) :
    perform m o len ((s.setI vi).setD vd) =
      mapNext (fun t => (t.setI vi).setD vd) (perform m o len s) := by
  cases m with
  | sei | cli | sed | cld | php | plp | rti => exact absurd (by decide) hm
  | asl | lsr | rol | ror | inc | dec => cases o <;> rfl
  | _ => rfl

/-- The state with another control state, fault report and phase (R34, R35). -/
def State.withControl (run : RunState) (cause : HaltCause) (op : Byte) (adr : Addr) (ph : Phase)
    (s : State) : State :=
  { s with runState := run, haltCause := cause, faultOpcode := op, faultPc := adr, phase := ph }

/-- No mnemonic but BRK writes or reads the control state, the fault report or the phase. -/
theorem perform_withControl {m : Mnemonic} (hm : m ≠ .brk) (o : Operand) (len : Nat) (s : State)
    (run : RunState) (cause : HaltCause) (op : Byte) (adr : Addr) (ph : Phase) :
    perform m o len (s.withControl run cause op adr ph) =
      mapNext (State.withControl run cause op adr ph) (perform m o len s) := by
  cases m with
  | brk => exact absurd rfl hm
  | asl | lsr | rol | ror | inc | dec => cases o <;> rfl
  | _ => rfl

end Sys2Proof.Machine

namespace Sys2Proof.Proofs

open Sys2Proof Sys2Proof.Machine

/-- Settles O3: the step is the step under the default policy, and every step under a policy keeps the invariant. -/
theorem everyStepKeepsTheInvariant : Obligations.EveryStepKeepsTheInvariant := by
  intro s t hi h
  rw [← stepUnder_binary] at h
  exact hi.of_stepUnder h

/-- Settles O4: BRK writes Break and no other flag, every other instruction is quiet, and a step that runs no
instruction writes no flag. -/
theorem unusedBitIsNeverAltered : Obligations.UnusedBitIsNeverAltered := by
  refine ⟨fun i s => ?_, fun s hu => ?_, rfl⟩
  · obtain ⟨t, ht⟩ := exec_completes i s
    exact ⟨t, ht, exec_keeps_unused ht⟩
  · obtain ⟨t, ht, same⟩ := step_keeps_unused s
    exact ⟨t, ht, same.trans hu⟩

/-- Settles O18, by induction on the first list: the first listed addresses agree, since below the first one a list
reads the reset contents and at it another byte. -/
theorem canonicalMemoryIsUnique : Obligations.CanonicalMemoryIsUnique := by
  intro m m' h h' alike
  refine Memory.eq_of_alike h h' fun adr lt => ?_
  have same := alike (BitVec.ofNat 16 adr)
  rwa [BitVec.toNat_ofNat, Nat.mod_eq_of_lt lt] at same

/-- Settles O1: reset is the state of R40's table, and the first push goes to the first byte of the stack page. -/
theorem resetLeavesTheTableOfValues : Obligations.ResetLeavesTheTableOfValues := fun _ =>
  ⟨rfl, rfl, rfl, rfl, rfl, rfl, rfl, fun _ => rfl, rfl, rfl, rfl, rfl, rfl,
    (by decide : packP false Status.reset = 0x20),
    fun v => ⟨State.read_push_of_sp_zero State.reset_inv.memWf rfl v, rfl⟩⟩

/-- Settles O2. -/
theorem resetMeetsTheInvariant : Obligations.ResetMeetsTheInvariant := State.reset_inv

/-- Settles O49: each mnemonic's flags against R27's column; Break and Unused from what is quiet in every instruction but
BRK. -/
theorem flagsAreWrittenOnlyByTheirWriters : Obligations.FlagsAreWrittenOnlyByTheirWriters := by
  intro i s
  obtain ⟨t, ht, w⟩ := exec_flags i s
  exact ⟨t, ht, w.c.resolve_left, fun ne => w.zn.resolve_left (not_and_or.mpr ne), w.i.resolve_left,
    w.d.resolve_left, fun ne => mnemonic_eq_brk_of_not_quiet ht fun quiet => ne quiet.b,
    w.v.resolve_left, exec_keeps_unused ht⟩

/-- Settles O50: each mnemonic's registers; the accumulator is the operand in Accumulator mode only, and the control state
is quiet in every instruction but BRK. -/
theorem registersAreWrittenOnlyByTheirWriters : Obligations.RegistersAreWrittenOnlyByTheirWriters := by
  intro i s
  obtain ⟨t, ht, w⟩ := exec_registers i s
  refine ⟨t, ht, fun ne => ?_, w.x.resolve_left, w.y.resolve_left, w.sp.resolve_left, w.pc,
    fun ne => mnemonic_eq_brk_of_not_quiet ht fun quiet => ne.elim (· quiet.runState) (· quiet.haltCause),
    exec_keeps_report_and_phase ht⟩
  refine (w.a.resolve_left ne).imp_right fun acc => ?_
  have mode := mode_of_operandOf_acc acc
  exact ⟨mnemonic_of_accumulator mode, mode⟩

/-- Settles O52: the operand is resolved without the flags, and the mnemonic performed on it does not read the two. -/
theorem interruptAndDecimalFlagsAreStorageOnly : Obligations.InterruptAndDecimalFlagsAreStorageOnly := by
  intro i s vi vd hm
  rw [exec_eq_perform, exec_eq_perform, operandOf_congr (s := s) i rfl rfl rfl rfl]
  exact perform_setI_setD hm _ _ s vi vd

/-- Settles O53: the operand is resolved without the control state, the mnemonic performed on it does not read it, and BRK
overwrites its two control fields. -/
theorem controlStateIsReadByNoInstruction : Obligations.ControlStateIsReadByNoInstruction := by
  intro i s run cause op adr ph other
  refine ⟨fun hb => ?_, rfl⟩
  rw [exec_eq_perform, exec_eq_perform, operandOf_congr (s := s) i rfl rfl rfl rfl]
  exact perform_withControl (fun e => hb (eq_brk_of_mnemonic e)) _ _ s run cause op adr ph

end Sys2Proof.Proofs

/-! PROOFS, family 20_memory: the stack, the fetch after a store, the pointer modes, what an instruction stores. -/

namespace Sys2Proof.Machine

open Sys2Proof Sys2Proof.Claims

/-! ## The stack (R62 to R64) -/

/-- The claims' formula for the stack byte is the model's (R62). -/
theorem stackByte_eq_stackAddr (sp : Byte) : stackByte sp = stackAddr sp := (stackAddr_eq sp).symm

theorem stackByte_toNat (sp : Byte) : (stackByte sp).toNat = 0x0100 + sp.toNat := by
  have := sp.isLt
  simp only [stackByte, BitVec.toNat_add, BitVec.toNat_setWidth, BitVec.reduceToNat]
  omega

/-- A push stores its byte at the stack byte that `SP` designates, and no other byte (R63). -/
theorem State.oneByteStored_push {s : State} (h : s.mem.wf = true) (v : Byte) :
    OneByteStored s (s.push v) (stackByte s.sp) v := by
  rw [stackByte_eq_stackAddr]
  exact State.oneByteStored_write h (stackAddr s.sp) v

/-- A pull reads the stack byte one above `SP`, modulo 256 (R64). -/
theorem State.pulled_eq (s : State) : s.pulled = s.read (stackByte (s.sp + 1)) := by
  rw [stackByte_eq_stackAddr]; rfl

/-- A pull right after a push returns the byte pushed (R64). -/
theorem State.pulled_push {s : State} (h : s.mem.wf = true) (v : Byte) : (s.push v).pulled = v := by
  have back : (s.push v).sp + 1 = s.sp := BitVec.sub_add_cancel s.sp 1
  rw [State.pulled_eq, back]
  exact (State.oneByteStored_push h v).1

/-! ## The fetch after a store (R61) -/

/-- STA in each encoding stores the accumulator at the effective address of its operand (R134). -/
theorem exec_of_mem_staRows {b1 b2 : Byte} {row : EncodingRow} (hrow : row ∈ staRows b1 b2) (s : State) :
    ∃ ea, row.operand b1 b2 s = .addr ea ∧ exec row.instr s = storeByte s.a ea row.length s := by
  fin_cases hrow <;> exact ⟨_, rfl, rfl⟩

/-- The fetch at any `pc` after one write decodes the bytes as they stand after it (R51, R61). -/
theorem State.fetchDecode_write_advance {s : State} (h : s.mem.wf = true) (ea : Addr) (v : Byte) (n : Nat) :
    let t := (s.write ea v).advance n
    let byte (k : Nat) := if t.after k = ea then v else s.read (t.after k)
    t.fetchDecode = decode (byte 0) (byte 1) (byte 2) := by
  simp only [State.fetchDecode, State.read_advance, State.read_write _ _ _ h]

/-! ## Words and pointers as numbers (R12, R13, R57) -/

theorem zext16_eq_ofNat (v : Byte) : zext16 v = BitVec.ofNat 16 v.toNat :=
  (BitVec.ofNat_toNat 16 v).symm

theorem concat_toNat (h l : Byte) : (concat h l).toNat = h.toNat * 256 + l.toNat := by
  rw [concat, BitVec.toNat_append, ← Nat.shiftLeft_add_eq_or_of_lt l.isLt, Nat.shiftLeft_eq]

theorem concat_eq_ofNat (h l : Byte) : concat h l = BitVec.ofNat 16 (h.toNat * 256 + l.toNat) := by
  rw [← concat_toNat, BitVec.ofNat_toNat, BitVec.setWidth_eq]

/-- `Read16`, as a number built from the two bytes (R57). -/
theorem State.read16_eq_ofNat (s : State) (lo hi : Addr) :
    s.read16 lo hi = BitVec.ofNat 16 ((s.read hi).toNat * 256 + (s.read lo).toNat) :=
  concat_eq_ofNat _ _

/-- Indirect: the carry of the low byte is dropped, so the high byte of the pointer is read in the same page (R101). -/
theorem eaIndirect_eq_ofNat (b1 b2 : Byte) (s : State) :
    eaIndirect b1 b2 s = BitVec.ofNat 16
      ((s.read (BitVec.ofNat 16 (b2.toNat * 256 + (b1.toNat + 1) % 256))).toNat * 256 +
        (s.read (BitVec.ofNat 16 (b2.toNat * 256 + b1.toNat))).toNat) := by
  rw [eaIndirect, State.read16_eq_ofNat, concat_eq_ofNat, concat_eq_ofNat, BitVec.toNat_add]
  rfl

/-- A pointer at the zero-page offset `z`: its high byte is at the next offset modulo 256 (R102, R103). -/
theorem State.read16_zeroPage_eq_ofNat (s : State) (z : Byte) :
    s.read16 (zext16 z) (zext16 (z + 1)) = BitVec.ofNat 16
      ((s.read (BitVec.ofNat 16 ((z.toNat + 1) % 256))).toNat * 256 + (s.read (BitVec.ofNat 16 z.toNat)).toNat) := by
  rw [State.read16_eq_ofNat, zext16_eq_ofNat, zext16_eq_ofNat, BitVec.toNat_add]
  rfl

theorem eaIndexedIndirect_eq_ofNat (b1 : Byte) (s : State) :
    let z := (b1.toNat + s.x.toNat) % 256
    eaIndexedIndirect b1 s = BitVec.ofNat 16
      ((s.read (BitVec.ofNat 16 ((z + 1) % 256))).toNat * 256 + (s.read (BitVec.ofNat 16 z)).toNat) := by
  rw [eaIndexedIndirect, State.read16_zeroPage_eq_ofNat, BitVec.toNat_add]

theorem eaIndirectIndexed_eq_ofNat (b1 : Byte) (s : State) :
    eaIndirectIndexed b1 s = BitVec.ofNat 16
      ((s.read (BitVec.ofNat 16 ((b1.toNat + 1) % 256))).toNat * 256 +
        (s.read (BitVec.ofNat 16 b1.toNat)).toNat + s.y.toNat) := by
  rw [eaIndirectIndexed, State.read16_zeroPage_eq_ofNat, zext16_eq_ofNat, ← BitVec.ofNat_add]

/-! ## What an instruction stores (R51, R105) -/

/-- Seen by reading, `t` has every byte as in `s` but at the listed addresses; memory keeps its canonical form. -/
structure StoresOnlyAt (stored : List Addr) (s t : State) : Prop where
  memWf : t.mem.wf = true
  read_eq : ∀ adr : Addr, adr ∉ stored → t.read adr = s.read adr

section StoresOnlyAt

variable {s t r : State}

theorem StoresOnlyAt.of_mem_eq (h : s.mem.wf = true) (same : t.mem = s.mem) : StoresOnlyAt [] s t :=
  ⟨same ▸ h, fun adr _ => State.read_congr same adr⟩

theorem StoresOnlyAt.of_oneByteStored {ea : Addr} {v : Byte} (one : OneByteStored s t ea v) :
    StoresOnlyAt [ea] s t := by
  obtain ⟨-, others, wf⟩ := one
  exact ⟨wf, fun adr off => others adr (List.ne_of_not_mem_cons off)⟩

theorem StoresOnlyAt.trans {l l' : List Addr} (first : StoresOnlyAt l s t) (second : StoresOnlyAt l' t r) :
    StoresOnlyAt (l ++ l') s r where
  memWf := second.memWf
  read_eq adr off := by
    rw [List.mem_append, not_or] at off
    exact (second.read_eq adr off.2).trans (first.read_eq adr off.1)

/-- Only memory counts: what is stored does not depend on what the next state holds elsewhere. -/
theorem StoresOnlyAt.congr {l : List Addr} (stores : StoresOnlyAt l s t) (same : r.mem = t.mem) :
    StoresOnlyAt l s r :=
  ⟨same ▸ stores.memWf, fun adr off => (State.read_congr same adr).trans (stores.read_eq adr off)⟩

end StoresOnlyAt

/-- The address that a store to a location writes, if it is one of memory (R105). -/
def Place.addresses : Place → List Addr
  | .acc => []
  | .addr ea => [ea]

theorem Place.store_storesOnlyAt {s : State} (h : s.mem.wf = true) (l : Place) (v : Byte) :
    StoresOnlyAt l.addresses s (l.store v s) := by
  cases l with
  | acc => exact .of_mem_eq h rfl
  | addr ea => exact .of_oneByteStored (State.oneByteStored_write h ea v)

/-- The shape the six read-modify-write operations share stores to its location alone (R200). -/
theorem storeResult_storesOnlyAt {s : State} (h : s.mem.wf = true) (l : Place) (r : Byte) (c : Bool) (len : Nat) :
    StoresOnlyAt l.addresses s (((l.store r (s.setC c)).setNZ r).advance len) :=
  (l.store_storesOnlyAt h r).congr (by rw [storeResult_eq])

/-- The addresses that a mnemonic performed on an operand stores to. -/
def storesOf (m : Mnemonic) (o : Operand) (s : State) : List Addr :=
  match m with
  | .sta | .stx | .sty => [o.address]
  | .asl | .lsr | .rol | .ror | .inc | .dec => o.place.addresses
  | .pha | .php => [stackByte s.sp]
  | .jsr => [stackByte s.sp, stackByte (s.sp - 1)]
  | _ => []

/-- The claims' stored addresses: no encoding of a storing mnemonic has an operand it cannot store to (R106). -/
theorem storedAddresses_eq_storesOf (i : Instr) (s : State) :
    storedAddresses i s = storesOf i.mnemonic (operandOf i s) s := by
  cases i <;> rfl

theorem perform_storesOnlyAt (m : Mnemonic) (o : Operand) (len : Nat) {s : State} (h : s.mem.wf = true) :
    ∃ t, perform m o len s = .next t ∧ StoresOnlyAt (storesOf m o s) s t := by
  cases m with
  | sta | stx | sty => exact ⟨_, rfl, .of_oneByteStored (State.oneByteStored_write h o.address _)⟩
  | asl | lsr | rol | ror => exact ⟨_, rfl, storeResult_storesOnlyAt h o.place _ _ len⟩
  | inc => exact ⟨_, inc_eq o.place len s, storeResult_storesOnlyAt h o.place _ _ len⟩
  | dec => exact ⟨_, dec_eq o.place len s, storeResult_storesOnlyAt h o.place _ _ len⟩
  | pha | php => exact ⟨_, rfl, (StoresOnlyAt.of_oneByteStored (State.oneByteStored_push h _)).congr rfl⟩
  | jsr =>
    have high := StoresOnlyAt.of_oneByteStored (State.oneByteStored_push h (highByte (s.after 3 - 1)))
    have low := StoresOnlyAt.of_oneByteStored (State.oneByteStored_push high.memWf (lowByte (s.after 3 - 1)))
    exact ⟨_, rfl, (high.trans low).congr rfl⟩
  | _ => exact ⟨_, rfl, .of_mem_eq h rfl⟩

theorem exec_storesOnlyAt (i : Instr) {s : State} (h : s.mem.wf = true) :
    ∃ t, exec i s = .next t ∧ StoresOnlyAt (storedAddresses i s) s t := by
  rw [exec_eq_perform, storedAddresses_eq_storesOf]
  exact perform_storesOnlyAt i.mnemonic (operandOf i s) i.length h

end Sys2Proof.Machine

namespace Sys2Proof.Proofs

open Sys2Proof Sys2Proof.Machine

/-- Settles O19: a push is one byte stored at a stack byte that is 0x0100 plus a byte; a pull reads the one above. -/
theorem pushAndPullKeepTheStackDiscipline : Obligations.PushAndPullKeepTheStackDiscipline := by
  intro s v hwf
  have sum := stackByte_toNat s.sp
  have := s.sp.isLt
  exact ⟨by omega, by omega, State.oneByteStored_push hwf v, rfl, s.pulled_eq, rfl, State.pulled_push hwf v,
    BitVec.sub_add_cancel s.sp 1⟩

/-- Settles O21: STA is one write, and each byte of the next fetch is read through it. -/
theorem nextFetchSeesTheStoredByte : Obligations.NextFetchSeesTheStoredByte := by
  intro s b1 b2 hwf row hrow
  obtain ⟨ea, operand, stores⟩ := exec_of_mem_staRows hrow s
  exact ⟨(s.write ea s.a).advance row.length, ea, operand, stores,
    State.fetchDecode_write_advance hwf ea s.a row.length⟩

/-- Settles O23: the three pointer modes, each as a number built from the two bytes of its pointer. -/
theorem pointerModesWrapInsideTheirPage : Obligations.PointerModesWrapInsideTheirPage := fun b1 b2 _ s =>
  ⟨congrArg Operand.addr (eaIndirect_eq_ofNat b1 b2 s), congrArg Operand.addr (eaIndexedIndirect_eq_ofNat b1 s),
    congrArg Operand.addr (eaIndirectIndexed_eq_ofNat b1 s)⟩

/-- Settles O51: each mnemonic on its resolved operand stores only where the claim computes. -/
theorem memoryChangesOnlyAtStoredAddresses : Obligations.MemoryChangesOnlyAtStoredAddresses := by
  intro i s hwf
  obtain ⟨t, ht, stores⟩ := exec_storesOnlyAt i hwf
  exact ⟨t, ht, stores.memWf, stores.read_eq⟩

end Sys2Proof.Proofs

/-! PROOFS, family 30_encoding: decode and encode, the dispatch record, the forms, and what a step fetches and
answers. -/

namespace Sys2Proof

open Claims

/-! ## Decode and encode -/

/-- The decoder's two answers: an instruction, or the byte itself as unassigned (R74). -/
theorem decode_cases (op b1 b2 : Byte) :
    (∃ i, decode op b1 b2 = .ok i) ∨ decode op b1 b2 = .error (.unassigned op) := by
  unfold decode
  cases decodeOpcode op b1 b2 with
  | none => exact .inr rfl
  | some i => exact .inl ⟨i, rfl⟩

/-- What decoding the front of a list of bytes means: the opcode byte decodes with the bytes after it, no operand byte
is missing, and the rest is what stands after the operand bytes. -/
theorem decodeBytes_cons_eq_ok_iff {op : Byte} {tail rest : List Byte} {i : Instr} :
    decodeBytes (op :: tail) = .ok (i, rest) ↔
      decode op (tail.getD 0 0) (tail.getD 1 0) = .ok i ∧ i.mode.operandBytes ≤ tail.length ∧
        tail.drop i.mode.operandBytes = rest := by
  rw [decodeBytes]
  cases decode op (tail.getD 0 0) (tail.getD 1 0) with
  | error r => simp
  | ok j =>
    by_cases short : tail.length < j.mode.operandBytes
    · simp only [short, if_true, reduceCtorEq, Except.ok.injEq, false_iff, not_and]
      rintro rfl le
      omega
    · simp only [short, if_false, Except.ok.injEq, Prod.mk.injEq]
      refine and_congr_right ?_
      rintro rfl
      simp [Nat.le_of_not_lt short]

theorem Mode.operandBytes_le_two (m : Mode) : m.operandBytes ≤ 2 := by
  cases m <;> decide

/-- Reading up to two bytes of a list that is long enough by their index, and then the rest, gives the list back. -/
theorem take_getD_append_drop {tail : List Byte} {n : Nat} (two : n ≤ 2) (le : n ≤ tail.length) :
    [tail.getD 0 0, tail.getD 1 0].take n ++ tail.drop n = tail := by
  match n, tail, le with
  | 0, tail, _ => rfl
  | 1, b1 :: tail, _ => rfl
  | 2, b1 :: b2 :: tail, _ => rfl

/-- The decoder's row for each opcode gives the instruction back, whatever stands behind its bytes (R70, R79). -/
theorem decodeBytes_encode_append (i : Instr) (rest : List Byte) :
    decodeBytes (encode i ++ rest) = .ok (i, rest) := by
  cases i <;> rfl

theorem eq_encode_append_of_decodeBytes {bytes rest : List Byte} {i : Instr}
    (h : decodeBytes bytes = .ok (i, rest)) : bytes = encode i ++ rest := by
  cases bytes with
  | nil => cases h
  | cons op tail =>
    obtain ⟨hdec, le, rfl⟩ := decodeBytes_cons_eq_ok_iff.mp h
    rw [encode_of_decode hdec, List.cons_append, take_getD_append_drop i.mode.operandBytes_le_two le]

/-! ## The dispatch record (R73) -/

/-- The record of an instruction's opcode byte, in the table built with zero operand bytes, is the instruction's. -/
theorem dispatchRom_of_head_encode {i : Instr} {op : Byte} (h : (encode i).head? = some op) :
    dispatchRom op = some i.record := by
  cases i <;> cases h <;> rfl

theorem head_encode_of_decode {op b1 b2 : Byte} {i : Instr} (h : decode op b1 b2 = .ok i) :
    (encode i).head? = some op := by
  rw [encode_of_decode h]; rfl

theorem dispatchRom_of_decode {op b1 b2 : Byte} {i : Instr} (h : decode op b1 b2 = .ok i) :
    dispatchRom op = some i.record :=
  dispatchRom_of_head_encode (head_encode_of_decode h)

theorem length_encode (i : Instr) : (encode i).length = 1 + i.mode.operandBytes := by
  cases i <;> rfl

theorem Instr.wellFormed_eq_true (i : Instr) : i.wellFormed = true := by
  cases i <;> rfl

/-- A byte with a record decodes, whatever the operand bytes, and the record is that of what it decodes to. -/
theorem exists_decode_of_dispatchRom {op : Byte} {r : DispatchRecord} (h : dispatchRom op = some r) (b1 b2 : Byte) :
    ∃ i, decode op b1 b2 = .ok i ∧ i.record = r := by
  obtain ⟨i, hi⟩ | unassigned := decode_cases op b1 b2
  · exact ⟨i, hi, Option.some.inj ((dispatchRom_of_decode hi).symm.trans h)⟩
  · rw [(decode_error_iff op b1 b2).mp unassigned] at h
    cases h

/-! ## Unassigned opcodes (R80) -/

/-- The 256 values of a byte, in order. -/
def allBytes : List Byte := (List.range 256).map (BitVec.ofNat 8)

theorem mem_allBytes (op : Byte) : op ∈ allBytes :=
  List.mem_map.mpr ⟨op.toNat, List.mem_range.mpr op.isLt, by simp⟩

theorem illegalBytes_eq_filter_dispatchRom : illegalBytes = allBytes.filter (dispatchRom · = none) := by
  decide +kernel

theorem mem_illegalBytes_iff_dispatchRom (op : Byte) : op ∈ illegalBytes ↔ dispatchRom op = none := by
  simp [illegalBytes_eq_filter_dispatchRom, mem_allBytes]

theorem mem_illegalBytes_iff_decode (op b1 b2 : Byte) :
    op ∈ illegalBytes ↔ decode op b1 b2 = .error (.unassigned op) := by
  rw [mem_illegalBytes_iff_dispatchRom, decode_error_iff]

theorem not_mem_illegalBytes_iff_decode (op b1 b2 : Byte) :
    op ∉ illegalBytes ↔ ∃ i, decode op b1 b2 = .ok i := by
  rw [mem_illegalBytes_iff_decode op b1 b2]
  obtain ⟨i, hi⟩ | unassigned := decode_cases op b1 b2
  · simp [hi]
  · simp [unassigned]

theorem zero_not_mem_illegalBytes : 0x00#8 ∉ illegalBytes := by decide

theorem illegalBytes_eq_filter_lists :
    illegalBytes = allBytes.filter fun op => op &&& 0x03 = 0x03 ∨ op ∈ illegalBytesOtherwise := by
  decide +kernel

theorem mem_illegalBytes_iff_lists (op : Byte) :
    op ∈ illegalBytes ↔ op &&& 0x03 = 0x03 ∨ op ∈ illegalBytesOtherwise := by
  simp [illegalBytes_eq_filter_lists, mem_allBytes]

/-! ## Forms (R79, R82) -/

/-- Every cell of R79 is the mnemonic and mode of some opcode byte's record. -/
theorem exists_opcode_of_mem_modes {m : Mnemonic} {mode : Mode} (h : mode ∈ m.modes) :
    ∃ op, (dispatchRom op).map (fun r => (r.mnemonic, r.mode)) = some (m, mode) := by
  revert mode
  cases m <;> decide +kernel

/-- The bytes behind the opcode byte are those of the form that the mode has. -/
theorem tail_encode (i : Instr) : (encode i).tail = [i.form.b1, i.form.b2].take i.mode.operandBytes := by
  cases i <;> rfl

/-- A form is fixed by its mnemonic, its mode and the operand bytes that the mode has, the others being zero. -/
theorem Form.ext_of_unusedBytesZero {f g : Form} (hmn : f.mnemonic = g.mnemonic) (hmode : f.mode = g.mode)
    (bytes : [f.b1, f.b2].take f.mode.operandBytes = [g.b1, g.b2].take f.mode.operandBytes)
    (hf : f.unusedBytesZero = true) (hg : g.unusedBytesZero = true) : f = g := by
  obtain ⟨m, mode, b1, b2⟩ := f
  obtain ⟨m', mode', c1, c2⟩ := g
  cases hmn
  cases hmode
  have le := mode.operandBytes_le_two
  simp only [Form.unusedBytesZero] at bytes hf hg
  generalize mode.operandBytes = n at *
  match n, le with
  | 0, _ | 1, _ | 2, _ => simp_all

theorem Form.wellFormed_iff (f : Form) :
    f.wellFormed = true ↔ f.mode ∈ f.mnemonic.modes ∧ f.unusedBytesZero = true := by
  simp [Form.wellFormed, Form.hasEncoding]

/-- A form with a cell in R79 is that of what the cell's opcode byte and the form's own bytes decode to. -/
theorem exists_form_eq_of_wellFormed {f : Form} (h : f.wellFormed = true) : ∃ i : Instr, i.form = f := by
  obtain ⟨cell, zero⟩ := f.wellFormed_iff.mp h
  obtain ⟨op, hop⟩ := exists_opcode_of_mem_modes cell
  obtain ⟨r, hr, same⟩ := Option.map_eq_some_iff.mp hop
  obtain ⟨i, hdec, rfl⟩ := exists_decode_of_dispatchRom hr f.b1 f.b2
  obtain ⟨hmn, hmode⟩ := Prod.mk.inj same
  have bytes : [i.form.b1, i.form.b2].take i.mode.operandBytes = [f.b1, f.b2].take i.mode.operandBytes := by
    rw [← tail_encode, encode_of_decode hdec, List.tail_cons]
  exact ⟨i, Form.ext_of_unusedBytesZero hmn hmode bytes (i.form.wellFormed_iff.mp i.wellFormed_eq_true).2 zero⟩

theorem decode_of_decodeTableWord {nbits w : Nat} {i : Instr} (h : decodeTableWord nbits w = some i) :
    decode (BitVec.ofNat 8 (w % 2 ^ nbits)) (BitVec.ofNat 8 (w % 2 ^ nbits / 256))
      (BitVec.ofNat 8 (w % 2 ^ nbits / 65536)) = .ok i := by
  simp only [decodeTableWord] at h
  split at h
  · rename_i hdec
    cases h
    exact hdec
  · cases h

end Sys2Proof

namespace Sys2Proof.Machine

open Sys2Proof Sys2Proof.Claims

/-! ## What a step fetches (R75) -/

/-- The bytes at `pc` decode as the fetch does, which reads three whatever the length (log 7). -/
theorem State.fetchDecode_of_decodeBytes {s : State} {i : Instr} {rest : List Byte}
    (h : decodeBytes (s.bytesAtPc 3) = .ok (i, rest)) : s.fetchDecode = .ok i :=
  (decodeBytes_cons_eq_ok_iff.mp h).1

theorem State.fetchDecode_of_mem_illegalBytes {s : State} (h : s.read s.pc ∈ illegalBytes) :
    s.fetchDecode = .error (.unassigned (s.read s.pc)) := by
  rw [State.fetchDecode, State.after_zero]
  exact (mem_illegalBytes_iff_decode _ _ _).mp h

theorem State.fetchDecode_of_read_zero {s : State} (h : s.read s.pc = 0x00) : s.fetchDecode = .ok .brk := by
  rw [State.fetchDecode, State.after_zero, h]
  exact decode_brk _ _

/-- No other byte than 0x00 is BRK's (R221). -/
theorem State.fetchDecode_of_assigned {s : State} (assigned : s.read s.pc ∉ illegalBytes)
    (nonzero : s.read s.pc ≠ 0x00) : ∃ i, i ≠ .brk ∧ s.fetchDecode = .ok i := by
  obtain ⟨i, hi⟩ := (not_mem_illegalBytes_iff_decode _ (s.read (s.after 1)) (s.read (s.after 2))).mp assigned
  refine ⟨i, ?_, by rwa [State.fetchDecode, State.after_zero]⟩
  rintro rfl
  exact nonzero (Option.some.inj (head_encode_of_decode hi)).symm

theorem State.fetchDecode_withFetchWord {s : State} (hwf : s.mem.wf = true) {nbits w : Nat} {i : Instr}
    (h : decodeTableWord nbits w = some i) : (s.withFetchWord nbits w).fetchDecode = .ok i :=
  (State.fetchDecode_storeAtPc_three (s := s.makeRunning) hwf _ _ _).trans (decode_of_decodeTableWord h)

theorem State.withFetchWord_runState (s : State) (nbits w : Nat) :
    (s.withFetchWord nbits w).runState = .running :=
  State.storeAtPc_runState _ _

/-! ## What a step answers (R75 to R77) -/

theorem step_completes (s : State) : ∃ t, step s = .next t ∧ t.phase = .stepping := by
  cases hr : s.runState with
  | halted => exact ⟨_, step_halted hr, rfl⟩
  | running =>
    cases hd : s.fetchDecode with
    | error r => exact ⟨_, step_of_rejected hr hd, rfl⟩
    | ok i =>
      obtain ⟨t, ht⟩ := exec_completes i s.beginStep
      obtain ⟨-, -, phase⟩ := exec_keeps_report_and_phase ht
      exact ⟨t, (step_of_decoded hr hd).trans ht, phase⟩

theorem State.beginStep_of_stepping {s : State} (h : s.phase = .stepping) : s.beginStep = s := by
  rw [State.beginStep, ← h]

theorem run_of_halted {s : State} (hr : s.runState = .halted) (hp : s.phase = .stepping) (k : Nat) :
    core.run k s = .next s := by
  have stays : step s = .next s := by rw [step_halted hr, State.beginStep_of_stepping hp]
  induction k with
  | zero => rfl
  | succ k ih => rw [run_succ_of_step stays, ih]

@[simp] theorem State.result_eq_continues_iff (s : State) : s.result = .continues ↔ s.haltCause = .none := by
  unfold State.result; cases s.haltCause <;> simp

@[simp] theorem State.result_eq_halt_iff (s : State) : s.result = .halt ↔ s.haltCause = .brk := by
  unfold State.result; cases s.haltCause <;> simp

@[simp] theorem State.result_eq_illegalOpcode_iff (s : State) :
    s.result = .illegalOpcode ↔ s.haltCause = .illegal := by
  unfold State.result; cases s.haltCause <;> simp

/-- The control state after a step of a Running unit whose halt cause agrees (R34), by the byte at `pc`. -/
theorem step_control_of_running {s : State} (hr : s.runState = .running) (hc : s.haltCause = .none) :
    ∃ t, step s = .next t ∧
      (s.read s.pc ∈ illegalBytes ∧ s.read s.pc ≠ 0x00#8 ∧ t.runState = .halted ∧ t.haltCause = .illegal ∨
        s.read s.pc = 0x00#8 ∧ t.runState = .halted ∧ t.haltCause = .brk ∨
        s.read s.pc ∉ illegalBytes ∧ s.read s.pc ≠ 0x00#8 ∧ t.runState = .running ∧ t.haltCause = .none) := by
  by_cases unassigned : s.read s.pc ∈ illegalBytes
  · have nonzero : s.read s.pc ≠ 0x00#8 := fun e => zero_not_mem_illegalBytes (e ▸ unassigned)
    exact ⟨_, step_of_rejected hr (State.fetchDecode_of_mem_illegalBytes unassigned),
      .inl ⟨unassigned, nonzero, rfl, rfl⟩⟩
  · by_cases zero : s.read s.pc = 0x00#8
    · exact ⟨_, step_of_decoded hr (State.fetchDecode_of_read_zero zero), .inr (.inl ⟨zero, rfl, rfl⟩)⟩
    · obtain ⟨i, hb, hd⟩ := State.fetchDecode_of_assigned unassigned zero
      obtain ⟨t, ht, quiet⟩ := exec_quiet i s.beginStep hb
      exact ⟨t, (step_of_decoded hr hd).trans ht,
        .inr (.inr ⟨unassigned, zero, quiet.runState.trans hr, quiet.haltCause.trans hc⟩)⟩

/-! ## A step under `refuse` (R112) -/

/-- Under `refuse`, ADC and SBC with `P.D = 1` are the refusal (R112). -/
theorem execUnder_refuse_of_decimal {i : Instr} {s : State} (hi : i.mnemonic = .adc ∨ i.mnemonic = .sbc)
    (hd : s.p.d = true) : execUnder .refuse i s = .refused .decimalMode := by
  have stopsAdc (m : Byte) (len : Nat) : adc .refuse m len s = .refused .decimalMode := by
    rw [adc_refuse, if_pos hd]
  have stopsSbc (m : Byte) (len : Nat) : sbc .refuse m len s = .refused .decimalMode := by
    rw [sbc_refuse, if_pos hd]
  cases i with
  | adcImm | adcZp | adcZpX | adcAbs | adcAbsX | adcAbsY | adcIndX | adcIndY => exact stopsAdc _ _
  | sbcImm | sbcZp | sbcZpX | sbcAbs | sbcAbsX | sbcAbsY | sbcIndX | sbcIndY => exact stopsSbc _ _
  | _ => rcases hi with h | h <;> cases h

/-- With `P.D = 0`, and in every other instruction, `refuse` is the default (R112). -/
theorem execUnder_refuse_of_not_decimal {i : Instr} {s : State}
    (h : ¬ (s.p.d = true ∧ (i.mnemonic = .adc ∨ i.mnemonic = .sbc))) : execUnder .refuse i s = exec i s := by
  have runsAdc (hd : ¬ s.p.d = true) (m : Byte) (len : Nat) : adc .refuse m len s = adc .binary m len s := by
    rw [adc_refuse, if_neg hd]
  have runsSbc (hd : ¬ s.p.d = true) (m : Byte) (len : Nat) : sbc .refuse m len s = sbc .binary m len s := by
    rw [sbc_refuse, if_neg hd]
  cases i with
  | adcImm | adcZp | adcZpX | adcAbs | adcAbsX | adcAbsY | adcIndX | adcIndY =>
    exact runsAdc (fun hd => h ⟨hd, .inl rfl⟩) _ _
  | sbcImm | sbcZp | sbcZpX | sbcAbs | sbcAbsX | sbcAbsY | sbcIndX | sbcIndY =>
    exact runsSbc (fun hd => h ⟨hd, .inr rfl⟩) _ _
  | _ => rfl

theorem stepUnder_halted (policy : DecimalPolicy) {s : State} (h : s.runState = .halted) :
    stepUnder policy s = .next s.beginStep := by
  rw [stepUnder_eq, h]

theorem stepUnder_of_decoded (policy : DecimalPolicy) {s : State} {i : Instr} (h : s.runState = .running)
    (d : s.fetchDecode = .ok i) : stepUnder policy s = execUnder policy i s.beginStep := by
  rw [stepUnder_eq, h, d]

end Sys2Proof.Machine

namespace Sys2Proof.Proofs

open Sys2Proof Sys2Proof.Machine Sys2Proof.Claims

/-- Settles O12: from left to right by what the decoder reads, from right to left by the table, row by row. -/
theorem decodeIsTheInverseOfEncode : Obligations.DecodeIsTheInverseOfEncode := by
  refine fun bytes rest i => ⟨eq_encode_append_of_decodeBytes, ?_⟩
  rintro rfl
  exact decodeBytes_encode_append i rest

/-- Settles O5: a Halted unit, an unassigned byte and every instruction answer a next state. -/
theorem everyStepCompletes : Obligations.EveryStepCompletes := step_completes

/-- Settles O7: the byte is rejected, so the step writes the report; the state it leads to is Halted and Stepping. -/
theorem unassignedByteTakesTheIllegalOpcodeStep : Obligations.UnassignedByteTakesTheIllegalOpcodeStep := by
  intro s running unassigned t
  have rejected := State.fetchDecode_of_mem_illegalBytes unassigned
  exact ⟨step_of_rejected running rejected, rfl, rfl, step_halted rfl⟩

/-- Settles O8: the lists are compared byte by byte, and the decoder rejects what has no dispatch record. -/
theorem unassignedOpcodesAreThe105Listed : Obligations.UnassignedOpcodesAreThe105Listed :=
  ⟨rfl, by decide, fun op b1 b2 => ⟨mem_illegalBytes_iff_lists op, mem_illegalBytes_iff_decode op b1 b2,
    not_mem_illegalBytes_iff_decode op b1 b2⟩⟩

/-- Settles O9: the step enters the Stepping phase and no more, so it is the identity there, by induction for ever. -/
theorem haltedUnitNeverChanges : Obligations.HaltedUnitNeverChanges := fun _ halted =>
  ⟨step_halted halted, rfl, run_of_halted halted⟩

/-- Settles O10: a Halted unit keeps its control state; a Running one goes by the byte at `pc`. -/
theorem stepReturnsOneOfThreeResults : Obligations.StepReturnsOneOfThreeResults := by
  intro s agree
  cases running : s.runState with
  | halted =>
    have cause : s.haltCause ≠ .none := fun h => by simp [agree.mpr h] at running
    exact ⟨s.beginStep, step_halted running, by simp [running, cause]⟩
  | running =>
    obtain ⟨t, ht, control⟩ := step_control_of_running running (agree.mp running)
    refine ⟨t, ht, ?_⟩
    obtain ⟨listed, nonzero, run, cause⟩ | ⟨zero, run, cause⟩ | ⟨listed, nonzero, run, cause⟩ := control
    · simp [listed, nonzero, run, cause]
    · simp [zero, zero_not_mem_illegalBytes, run, cause]
    · simp [listed, nonzero, run, cause]

/-- Settles O14: what decodes is encoded behind its opcode byte, and that byte's record is the instruction's. -/
theorem dispatchRecordFixesModeAndLength : Obligations.DispatchRecordFixesModeAndLength := fun _ _ _ i h =>
  ⟨dispatchRom_of_decode h, rfl, length_encode i, head_encode_of_decode h, i.wellFormed_eq_true⟩

/-- Settles O15: a cell of R79 has an opcode byte, which decodes with the form's bytes to its instruction. -/
theorem wellFormedFormsAreTheInstructions : Obligations.WellFormedFormsAreTheInstructions := by
  refine fun f => ⟨exists_form_eq_of_wellFormed, ?_⟩
  rintro ⟨i, rfl⟩
  exact i.wellFormed_eq_true

/-- Settles O17: the state is Running and its next fetch reads the three bytes of the word. -/
theorem fetchWordIsTheOneRun : Obligations.FetchWordIsTheOneRun := fun s nbits w _ hwf h =>
  step_of_decoded (s.withFetchWord_runState nbits w) (State.fetchDecode_withFetchWord hwf h)

/-- Settles O57: Halted, the policy is not asked; Running, it changes ADC and SBC with `P.D = 1` alone. -/
theorem stepUnderRefuseStopsOnDecimalAddAndSubtractOnly :
    Obligations.StepUnderRefuseStopsOnDecimalAddAndSubtractOnly := by
  refine fun s => ⟨?stops, ?runs, ?completes⟩
  case stops =>
    rintro ⟨running, decimal, i, decoded, hi⟩
    rw [stepUnder_of_decoded .refuse running decoded]
    exact execUnder_refuse_of_decimal hi decimal
  case runs =>
    intro goesOn
    cases running : s.runState with
    | halted => rw [stepUnder_halted .refuse running, stepUnder_halted .binary running]
    | running =>
      refine stepWith_congr fun i decoded => ?_
      rw [execUnder_binary]
      exact execUnder_refuse_of_not_decimal fun ⟨decimal, hi⟩ => goesOn ⟨running, decimal, i, decoded, hi⟩
  case completes =>
    obtain ⟨t, ht, -⟩ := step_completes s
    exact ⟨t, stepUnder_binary ▸ ht⟩

/-- Settles O6: the step runs what the fetch decodes, which is what the bytes at `pc` decode to. -/
theorem stepRunsTheDecodedInstruction : Obligations.StepRunsTheDecodedInstruction := fun _ _ _ running h =>
  step_of_decoded running (State.fetchDecode_of_decodeBytes h)

/-- Settles O13: the decoder's rows for the twenty-two opcode bytes. -/
theorem specWordsDecodeToTheirInstructions : Obligations.SpecWordsDecodeToTheirInstructions :=
  ⟨decode_clc _ _, decode_aslAcc _ _, decode_adcImm _ _, decode_ldaZp _ _, decode_ldaZpX _ _, decode_ldxZpY _ _,
    decode_bne _ _, decode_jmpAbs _ _, decode_ldaAbsX _ _, decode_ldaAbsY _ _, decode_jmpInd _ _,
    decode_ldaIndX _ _, decode_ldaIndY _ _, decode_andImm _ _, decode_bitZp _ _, decode_staAbs _ _,
    decode_pha _ _, decode_jsr _ _, decode_cmpImm _ _, decode_decAbs _ _, decode_nop _ _, decode_brk _ _⟩

end Sys2Proof.Proofs

/-! PROOFS, family 40_addressing_modes: the effective addresses that read no memory, as numbers. -/

namespace Sys2Proof.Machine

open Sys2Proof

/-! ## Effective addresses as numbers (R12, R95 to R100) -/

/-- Two bytes added as bytes designate a zero-page byte: the sum wraps modulo 256 (R95, R96). -/
theorem zext16_add_eq_ofNat (v w : Byte) : zext16 (v + w) = BitVec.ofNat 16 ((v.toNat + w.toNat) % 256) := by
  rw [zext16_eq_ofNat, BitVec.toNat_add]

/-- A byte added to a word as a word: the sum wraps modulo 65536 (R99, R100). -/
theorem concat_add_zext16_eq_ofNat (h l v : Byte) :
    concat h l + zext16 v = BitVec.ofNat 16 (h.toNat * 256 + l.toNat + v.toNat) := by
  rw [concat_eq_ofNat, zext16_eq_ofNat, ← BitVec.ofNat_add]

/-- Relative: the offset counts as a signed number, and the sum wraps modulo 65536 (R97). -/
theorem eaRelative_eq_ofInt (b1 : Byte) (next : Addr) :
    eaRelative b1 next = BitVec.ofInt 16 (next.toNat + b1.toInt) := by
  rw [eaRelative, sext16, BitVec.signExtend, BitVec.ofInt_add, BitVec.ofInt_natCast, BitVec.ofNat_toNat,
    BitVec.setWidth_eq]

end Sys2Proof.Machine

namespace Sys2Proof.Proofs

open Sys2Proof Sys2Proof.Machine

/-- Settles O22: three modes give no address; the others give a byte or a word, or a sum that wraps at the rule's width. -/
theorem directModesGiveTheirAddresses : Obligations.DirectModesGiveTheirAddresses := fun b1 b2 next s =>
  ⟨rfl, rfl, rfl,
    congrArg Operand.addr (zext16_eq_ofNat b1),
    congrArg Operand.addr (zext16_add_eq_ofNat b1 s.x),
    congrArg Operand.addr (zext16_add_eq_ofNat b1 s.y),
    congrArg Operand.addr (eaRelative_eq_ofInt b1 next),
    congrArg Operand.addr (concat_eq_ofNat b2 b1),
    congrArg Operand.addr (concat_add_zext16_eq_ofNat b2 b1 s.x),
    congrArg Operand.addr (concat_add_zext16_eq_ofNat b2 b1 s.y)⟩

end Sys2Proof.Proofs

/-! PROOFS, family 41_arithmetic: the adder in unsigned and signed arithmetic, and ADC and SBC in all their encodings. -/

namespace Sys2Proof.Machine

open Sys2Proof Sys2Proof.Claims

/-! ## The adder as unsigned arithmetic (R110, R114) -/

/-- Nine bits hold the sum of two bytes and a carry without wrapping (R110). -/
theorem nineBitSum_toNat (a m : Byte) (c : Bool) :
    (a.setWidth 9 + m.setWidth 9 + (BitVec.ofBool c).setWidth 9 : BitVec 9).toNat =
      a.toNat + m.toNat + c.toNat := by
  have := a.isLt
  have := m.isLt
  have := c.toNat_le
  simp only [BitVec.toNat_add, BitVec.toNat_setWidth, BitVec.toNat_ofBool]
  omega

/-- The adder on numbers: the sum as a byte, the carry as a comparison, the overflow as the sign table of R115. -/
theorem addCore_eq (a m : Byte) (c : Bool) :
    let sum := a.toNat + m.toNat + c.toNat
    let r : Byte := BitVec.ofNat 8 sum
    addCore a m c =
      { r := r, cout := decide (256 ≤ sum), v := a.msb == m.msb && r.msb != a.msb } := by
  have nineBits := nineBitSum_toNat a m c
  have lowByte : (a.setWidth 9 + m.setWidth 9 + (BitVec.ofBool c).setWidth 9).setWidth 8 =
      BitVec.ofNat 8 (a.toNat + m.toNat + c.toNat) := by
    rw [← nineBits, BitVec.ofNat_toNat]
  have ninthBit : (a.setWidth 9 + m.setWidth 9 + (BitVec.ofBool c).setWidth 9).getLsbD 8 =
      decide (256 ≤ a.toNat + m.toNat + c.toNat) := by
    rw [← nineBits]; exact BitVec.getLsbD_last _
  simp only [addCore, lowByte, ninthBit, getLsbD_seven]

/-- Adding the one's complement subtracts (R113, R114): the carry stands for the absence of a borrow, and the operands of a
difference overflow where those of a sum do not. -/
theorem addCore_not_eq (a m : Byte) (c : Bool) :
    let borrow := 1 - c.toNat
    let r : Byte := a - m - BitVec.ofNat 8 borrow
    addCore a (~~~m) c =
      { r := r, cout := decide (m.toNat + borrow ≤ a.toNat), v := a.msb != m.msb && r.msb != a.msb } := by
  intro borrow r
  have bound := m.isLt
  have carry := c.toNat_le
  have sum : a.toNat + (~~~m).toNat + c.toNat + m.toNat + borrow = a.toNat + 256 := by
    rw [BitVec.toNat_not]; omega
  have result : BitVec.ofNat 8 (a.toNat + (~~~m).toNat + c.toNat) = r := by
    apply BitVec.eq_of_toNat_eq
    simp only [r, BitVec.toNat_ofNat, BitVec.toNat_sub]
    omega
  have noBorrow : decide (256 ≤ a.toNat + (~~~m).toNat + c.toNat) = decide (m.toNat + borrow ≤ a.toNat) :=
    decide_eq_decide.mpr (by omega)
  have signs : (a.msb == (~~~m).msb) = (a.msb != m.msb) := by
    rw [BitVec.msb_not]; cases a.msb <;> cases m.msb <;> rfl
  rw [addCore_eq, result, noBorrow, signs]

/-! ## The overflow as signed arithmetic (R114, R115) -/

theorem addCore_v_iff_signs (a m : Byte) (c : Bool) :
    (addCore a m c).v = true ↔ a.msb = m.msb ∧ (addCore a m c).r.msb ≠ a.msb := by
  simp [addCore_eq]

/-- Operands of unlike sign stay in range and have no overflow by the table; of like sign, the sum leaves the range
exactly when bit 7 of the result is not theirs. -/
theorem addCore_v_iff_signed (a m : Byte) (c : Bool) :
    (addCore a m c).v = true ↔
      a.toInt + m.toInt + c.toNat < -128 ∨ 127 < a.toInt + m.toInt + (c.toNat : Int) := by
  have := a.isLt
  have := m.isLt
  have := c.toNat_le
  rw [addCore_v_iff_signs, addCore_eq]
  simp only [BitVec.msb_eq_decide, BitVec.toInt_eq_toNat_cond, BitVec.toNat_ofNat, decide_eq_decide, ne_eq]
  split
  case isTrue nonneg => split <;> omega
  case isFalse neg => split <;> omega

theorem complement_toInt (m : Byte) : (~~~m).toInt = -m.toInt - 1 := by
  have := m.isLt
  simp only [BitVec.toInt_eq_toNat_cond, BitVec.toNat_not]
  split <;> split <;> omega

/-- The complement and the carry make the signed sum the signed difference (R114). -/
theorem addCore_not_v_iff_signed (a m : Byte) (c : Bool) :
    let borrow : Nat := 1 - c.toNat
    (addCore a (~~~m) c).v = true ↔ a.toInt - m.toInt - borrow < -128 ∨ 127 < a.toInt - m.toInt - borrow := by
  have := c.toNat_le
  rw [addCore_v_iff_signed, complement_toInt]
  omega

/-! ## ADC and SBC in their encodings (R111, R113) -/

/-- ADC in each encoding: the byte decodes to the row's instruction, which under any policy adds the byte that
its operand loads (R111). -/
theorem execUnder_of_mem_adcRows {b1 b2 : Byte} {row : EncodingRow} (hrow : row ∈ adcRows b1 b2) (s : State) :
    decode row.opcode b1 b2 = .ok row.instr ∧ ∃ m, (row.operand b1 b2 s).load s = some m ∧
      ∀ policy, execUnder policy row.instr s = adc policy m row.length s := by
  fin_cases hrow <;> exact ⟨by simp, _, rfl, fun _ => rfl⟩

/-- SBC in each encoding: the byte decodes to the row's instruction, which under any policy subtracts the byte
that its operand loads (R113). -/
theorem execUnder_of_mem_sbcRows {b1 b2 : Byte} {row : EncodingRow} (hrow : row ∈ sbcRows b1 b2) (s : State) :
    decode row.opcode b1 b2 = .ok row.instr ∧ ∃ m, (row.operand b1 b2 s).load s = some m ∧
      ∀ policy, execUnder policy row.instr s = sbc policy m row.length s := by
  fin_cases hrow <;> exact ⟨by simp, _, rfl, fun _ => rfl⟩

/-- Wherever the spec gives ADC and SBC a meaning, the policy changes no instruction (R112). -/
theorem execUnder_eq_exec {policy : DecimalPolicy} {s : State} (h : policy = .binary ∨ s.p.d = false) (i : Instr) :
    execUnder policy i s = exec i s := by
  cases policy with
  | binary => exact execUnder_binary i s
  | refuse =>
    have clear : s.p.d = false := h.resolve_left (by decide)
    exact execUnder_refuse_of_not_decimal fun ⟨decimal, _⟩ => by simp [clear] at decimal

/-- ADC and SBC in each encoding write `A` and the adder's flags, and go on (R111, R113). -/
theorem exec_of_mem_adcRows_append_sbcRows {b1 b2 : Byte} {row : EncodingRow}
    (hrow : row ∈ adcRows b1 b2 ++ sbcRows b1 b2) (s : State) :
    ∃ o : AdderOut, exec row.instr s = .next { s with
      a := o.r
      p := { flagsNZ s.p o.r with c := o.cout, v := o.v }
      pc := s.after row.length } := by
  rw [← execUnder_binary]
  rcases List.mem_append.mp hrow with hrow | hrow
  · obtain ⟨-, m, -, adds⟩ := execUnder_of_mem_adcRows hrow s
    exact ⟨addCore s.a m s.p.c, (adds .binary).trans (adc_eq m row.length s)⟩
  · obtain ⟨-, m, -, subtracts⟩ := execUnder_of_mem_sbcRows hrow s
    exact ⟨addCore s.a (~~~m) s.p.c, (subtracts .binary).trans (sbc_eq m row.length s)⟩

end Sys2Proof.Machine

namespace Sys2Proof.Proofs

open Sys2Proof Sys2Proof.Machine

/-- Settles O24: the adder as numbers, on the operand and on its one's complement, and the two overflow laws. -/
theorem adderCarryAndOverflowLaws : Obligations.AdderCarryAndOverflowLaws := by
  intro a m c o sum signedSum o' borrow signedDiff
  have ho : o = _ := addCore_eq a m c
  have ho' : o' = _ := addCore_not_eq a m c
  have := m.isLt
  have := c.toNat_le
  refine ⟨by rw [ho, BitVec.toNat_ofNat], by rw [ho, decide_eq_true_eq], addCore_v_iff_signed a m c,
    addCore_v_iff_signs a m c, ?difference, by rw [ho', decide_eq_true_eq], addCore_not_v_iff_signed a m c⟩
  rw [ho']
  simp only [BitVec.toNat_sub, BitVec.toNat_ofNat]
  omega

/-- Settles O25: the row's instruction is ADC on the byte its operand loads, and the adder is the sum (under the default
policy, so the premise is not needed). -/
theorem adcAddsWithCarry : Obligations.AdcAddsWithCarry := by
  intro s b1 b2 _ row hrow
  obtain ⟨decodes, m, loads, adds⟩ := execUnder_of_mem_adcRows hrow s
  refine ⟨decodes, m, loads, ?_⟩
  rw [← execUnder_binary, adds, adc_eq, addCore_eq]
  rfl

/-- Settles O26: the row's instruction is SBC on the byte its operand loads, and the adder on the complement is the
difference. -/
theorem sbcSubtractsWithBorrow : Obligations.SbcSubtractsWithBorrow := by
  intro s b1 b2 _ row hrow
  obtain ⟨decodes, m, loads, subtracts⟩ := execUnder_of_mem_sbcRows hrow s
  refine ⟨decodes, m, loads, ?_⟩
  rw [← execUnder_binary, subtracts, sbc_eq, addCore_not_eq]
  rfl

/-- Settles O55: the two cases of an instruction under `refuse`. -/
theorem refusePolicyStopsDecimalAddAndSubtractOnly : Obligations.RefusePolicyStopsDecimalAddAndSubtractOnly := by
  intro i s
  split
  case isTrue stops =>
    obtain ⟨hi, decimal⟩ := stops
    exact execUnder_refuse_of_decimal hi decimal
  case isFalse goesOn =>
    rw [execUnder_binary]
    exact execUnder_refuse_of_not_decimal fun ⟨decimal, hi⟩ => goesOn ⟨hi, decimal⟩

/-- Settles O56: with a meaning the policy changes nothing, and every instruction completes at the default. -/
theorem addAndSubtractUnderEitherPolicyComplete : Obligations.AddAndSubtractUnderEitherPolicyComplete := by
  intro policy s b1 b2 h row _
  have same := execUnder_eq_exec h row.instr
  exact ⟨same, same ▸ exec_completes row.instr s⟩

/-- Settles O27: `refuse` splits on `P.D`; under `binary` the next state is written without reading `P.D`. -/
theorem decimalPoliciesDifferOnlyInDecimalMode : Obligations.DecimalPoliciesDifferOnlyInDecimalMode := by
  refine fun m len s => ⟨fun set => ?_, fun clear => ?_, fun v => ⟨?_, ?_⟩⟩
  · rw [adc_refuse, sbc_refuse, if_pos set, if_pos set]
    exact ⟨rfl, rfl⟩
  · simp [adc_refuse, sbc_refuse, clear]
  · rw [adc_eq, adc_eq]; rfl
  · rw [sbc_eq, sbc_eq]; rfl

/-- Settles O28: the next state is written out in terms of the adder's outputs. -/
theorem addAndSubtractCompleteInEveryState : Obligations.AddAndSubtractCompleteInEveryState := by
  refine ⟨rfl, fun s b1 b2 row hrow => ?_⟩
  obtain ⟨_, completes⟩ := exec_of_mem_adcRows_append_sbcRows hrow s
  exact ⟨_, completes, rfl, rfl, rfl, rfl, rfl⟩

end Sys2Proof.Proofs

/-! PROOFS, family 42_logical: AND, ORA, EOR and BIT in all their encodings. -/

namespace Sys2Proof.Machine

open Sys2Proof Sys2Proof.Claims

/-! ## The instructions that load their operand (R104) -/

/-- The encodings of a mnemonic whose rule loads the operand and stores nothing to it; none for any other mnemonic. -/
def loadRows (b1 b2 : Byte) : Mnemonic → List EncodingRow
  | .adc => adcRows b1 b2
  | .sbc => sbcRows b1 b2
  | .and => andRows b1 b2
  | .ora => oraRows b1 b2
  | .eor => eorRows b1 b2
  | .bit => bitRows b1 b2
  | .lda => ldaRows b1 b2
  | .ldx => ldxRows b1 b2
  | .ldy => ldyRows b1 b2
  | .cmp => cmpRows b1 b2
  | .cpx => cpxRows b1 b2
  | .cpy => cpyRows b1 b2
  | _ => []

/-- In each encoding the byte decodes to the row's instruction, which performs the mnemonic on the byte that its operand
loads, wherever that byte comes from. -/
theorem exec_of_mem_loadRows {mn : Mnemonic} {b1 b2 : Byte} {row : EncodingRow} (hrow : row ∈ loadRows b1 b2 mn)
    (s : State) :
    decode row.opcode b1 b2 = .ok row.instr ∧ ∃ m, (row.operand b1 b2 s).load s = some m ∧
      exec row.instr s = perform mn (.imm m) row.length s := by
  cases mn with
  | adc | sbc | and | ora | eor | bit | lda | ldx | ldy | cmp | cpx | cpy =>
    fin_cases hrow <;> exact ⟨by simp, _, rfl, rfl⟩
  | _ => cases hrow

/-! ## The logical operations (R120 to R123) -/

theorem bitTest_eq (m : Byte) (len : Nat) (s : State) :
    bitTest m len s = .next { s with
      p := { s.p with z := decide (s.a &&& m = 0), n := m.getLsbD 7, v := m.getLsbD 6 }
      pc := s.after len } := rfl

/-- A mnemonic that writes `f A m` as its logical result does so in each encoding, on the byte that the operand loads. -/
theorem exec_logical_of_mem_loadRows {mn : Mnemonic} {f : Byte → Byte → Byte}
    (combines : ∀ m len s, perform mn (.imm m) len s = logicalResult (f s.a m) len s)
    {b1 b2 : Byte} {row : EncodingRow} (hrow : row ∈ loadRows b1 b2 mn) (s : State) :
    decode row.opcode b1 b2 = .ok row.instr ∧ ∃ m, (row.operand b1 b2 s).load s = some m ∧
      exec row.instr s = .next { s with
        a := f s.a m, p := flagsNZ s.p (f s.a m), pc := s.after row.length } := by
  obtain ⟨decodes, m, loads, performs⟩ := exec_of_mem_loadRows hrow s
  refine ⟨decodes, m, loads, ?_⟩
  rw [performs, combines, logicalResult_eq]
  rfl

end Sys2Proof.Machine

namespace Sys2Proof.Proofs

open Sys2Proof Sys2Proof.Machine

/-- Settles O29: each of the three mnemonics is the logical result of its own operation. -/
theorem logicalInstructionsCombineIntoA : Obligations.LogicalInstructionsCombineIntoA := fun s _ _ =>
  ⟨fun _ hrow => exec_logical_of_mem_loadRows (mn := .and) (fun _ _ _ => rfl) hrow s,
    fun _ hrow => exec_logical_of_mem_loadRows (mn := .ora) (fun _ _ _ => rfl) hrow s,
    fun _ hrow => exec_logical_of_mem_loadRows (mn := .eor) (fun _ _ _ => rfl) hrow s⟩

/-- Settles O30: the row's instruction is the bit test of the byte its operand loads. -/
theorem bitTestsWithoutWriting : Obligations.BitTestsWithoutWriting := by
  intro s b1 b2 row hrow
  obtain ⟨decodes, m, loads, tests⟩ := exec_of_mem_loadRows (mn := .bit) hrow s
  exact ⟨decodes, m, loads, tests.trans (bitTest_eq m row.length s)⟩

end Sys2Proof.Proofs

/-! PROOFS, family 43_load_store_transfer: LDA, LDX, LDY, STA, STX and STY in all their encodings, and the six
transfers. -/

namespace Sys2Proof.Machine

open Sys2Proof Sys2Proof.Claims

/-! ## Loads (R131 to R133) -/

/-- A mnemonic that leaves `after m` with the flags of `m` when performed on the byte `m` does so in each encoding, on
the byte that the operand loads. -/
theorem exec_load_of_mem_loadRows {mn : Mnemonic} {s : State} (after : Byte → State)
    (writes : ∀ m len, perform mn (.imm m) len s = .next { after m with p := flagsNZ s.p m, pc := s.after len })
    {b1 b2 : Byte} {row : EncodingRow} (hrow : row ∈ loadRows b1 b2 mn) :
    decode row.opcode b1 b2 = .ok row.instr ∧ ∃ m, (row.operand b1 b2 s).load s = some m ∧
      exec row.instr s = .next { after m with p := flagsNZ s.p m, pc := s.after row.length } := by
  obtain ⟨decodes, m, loads, performs⟩ := exec_of_mem_loadRows hrow s
  exact ⟨decodes, m, loads, performs.trans (writes m row.length)⟩

/-! ## Stores (R134 to R136) -/

/-- The encodings of a mnemonic that stores a register; none for any other mnemonic. -/
def storeRows (b1 b2 : Byte) : Mnemonic → List EncodingRow
  | .sta => staRows b1 b2
  | .stx => stxRows b1 b2
  | .sty => styRows b1 b2
  | _ => []

/-- In each encoding the byte decodes to the row's instruction, which performs the mnemonic on the effective address that
its operand is. -/
theorem exec_of_mem_storeRows {mn : Mnemonic} {b1 b2 : Byte} {row : EncodingRow} (hrow : row ∈ storeRows b1 b2 mn)
    (s : State) :
    decode row.opcode b1 b2 = .ok row.instr ∧ ∃ ea, row.operand b1 b2 s = .addr ea ∧
      exec row.instr s = perform mn (.addr ea) row.length s := by
  cases mn with
  | sta | stx | sty => fin_cases hrow <;> exact ⟨by simp, _, rfl, rfl⟩
  | _ => cases hrow

/-- A mnemonic that stores the byte `v` at its effective address does so in each encoding, at the address that the
operand is, and changes nothing else but `pc`. -/
theorem exec_store_of_mem_storeRows {mn : Mnemonic} {s : State} {v : Byte}
    (stores : ∀ ea len, perform mn (.addr ea) len s = storeByte v ea len s) (hwf : s.mem.wf = true)
    {b1 b2 : Byte} {row : EncodingRow} (hrow : row ∈ storeRows b1 b2 mn) :
    decode row.opcode b1 b2 = .ok row.instr ∧
      ∃ ea t, row.operand b1 b2 s = .addr ea ∧ exec row.instr s = .next t ∧
        OneByteStored s t ea v ∧ t = { s with mem := t.mem, pc := s.after row.length } := by
  obtain ⟨decodes, ea, operand, performs⟩ := exec_of_mem_storeRows hrow s
  have completes := (performs.trans (stores ea row.length)).trans (storeByte_eq v ea row.length s)
  exact ⟨decodes, ea, _, operand, completes, State.oneByteStored_write hwf ea v, rfl⟩

end Sys2Proof.Machine

namespace Sys2Proof.Proofs

open Sys2Proof Sys2Proof.Machine

/-- Settles O31: each of the three mnemonics writes its own register with the byte that its operand loads. -/
theorem loadsWriteTheirRegister : Obligations.LoadsWriteTheirRegister := fun s _ _ =>
  ⟨fun _ hrow => exec_load_of_mem_loadRows (mn := .lda) (fun m => { s with a := m }) (lda_eq · · s) hrow,
    fun _ hrow => exec_load_of_mem_loadRows (mn := .ldx) (fun m => { s with x := m }) (ldx_eq · · s) hrow,
    fun _ hrow => exec_load_of_mem_loadRows (mn := .ldy) (fun m => { s with y := m }) (ldy_eq · · s) hrow⟩

/-- Settles O32: each of the three mnemonics is one write of its own register at the effective address. -/
theorem storesWriteOneByte : Obligations.StoresWriteOneByte := fun _ _ _ hwf =>
  ⟨fun _ hrow => exec_store_of_mem_storeRows (mn := .sta) (fun _ _ => rfl) hwf hrow,
    fun _ hrow => exec_store_of_mem_storeRows (mn := .stx) (fun _ _ => rfl) hwf hrow,
    fun _ hrow => exec_store_of_mem_storeRows (mn := .sty) (fun _ _ => rfl) hwf hrow⟩

/-- Settles O33: a transfer to `A`, `X` or `Y` is the load of that register with the source; TXS sets `SP` alone. -/
theorem transfersCopyOneRegister : Obligations.TransfersCopyOneRegister := fun s b1 b2 =>
  ⟨decode_tax b1 b2, ldx_eq s.a 1 s, decode_tay b1 b2, ldy_eq s.a 1 s, decode_txa b1 b2, lda_eq s.x 1 s,
    decode_tya b1 b2, lda_eq s.y 1 s, decode_tsx b1 b2, ldx_eq s.sp 1 s, decode_txs b1 b2, rfl⟩

end Sys2Proof.Proofs

/-! PROOFS, family 44_branch: the eight branches. -/

namespace Sys2Proof.Machine

open Sys2Proof

/-- A branch changes `pc` alone, to the next instruction or to the offset counted from there as a signed number (R97,
R150). -/
theorem branchIf_eq_next (cond : Bool) (b1 : Byte) (s : State) :
    branchIf cond b1 s = .next { s with
      pc := if cond = true then BitVec.ofInt 16 ((s.after 2).toNat + b1.toInt) else s.after 2 } := by
  rw [branchIf_eq, eaRelative_eq_ofInt]
  rfl

end Sys2Proof.Machine

namespace Sys2Proof.Proofs

open Sys2Proof Sys2Proof.Machine

/-- Settles O34: each instruction is the shared branch on its own flag, set or clear. -/
theorem branchesTestOneFlag : Obligations.BranchesTestOneFlag := fun s b1 b2 =>
  ⟨⟨decode_bcc b1 b2, branchIf_eq_next (!s.p.c) b1 s⟩, ⟨decode_bcs b1 b2, branchIf_eq_next s.p.c b1 s⟩,
    ⟨decode_beq b1 b2, branchIf_eq_next s.p.z b1 s⟩, ⟨decode_bne b1 b2, branchIf_eq_next (!s.p.z) b1 s⟩,
    ⟨decode_bmi b1 b2, branchIf_eq_next s.p.n b1 s⟩, ⟨decode_bpl b1 b2, branchIf_eq_next (!s.p.n) b1 s⟩,
    ⟨decode_bvc b1 b2, branchIf_eq_next (!s.p.v) b1 s⟩, ⟨decode_bvs b1 b2, branchIf_eq_next s.p.v b1 s⟩⟩

end Sys2Proof.Proofs

/-! PROOFS, family 45_stack_and_flags: PHA, PHP, PLA, PLP and the seven flag instructions. -/

namespace Sys2Proof.Machine

open Sys2Proof Sys2Proof.Claims

/-! ## The packed status (R32) -/

/-- The packed status built from bit 7 down to bit 0, one bit after the other (R32). -/
theorem packP_eq_concat (b : Bool) (p : Status) :
    packP b p = (((((((BitVec.ofBool p.n).concat p.v).concat true).concat b).concat p.d).concat p.i).concat p.z).concat
      p.c := rfl

/-- Bits 0 to 7 of the packed status are C, Z, I, D, `b`, 1, V, N (R32). -/
theorem packP_getLsbD (b : Bool) (p : Status) :
    (packP b p).getLsbD 0 = p.c ∧ (packP b p).getLsbD 1 = p.z ∧ (packP b p).getLsbD 2 = p.i ∧
      (packP b p).getLsbD 3 = p.d ∧ (packP b p).getLsbD 4 = b ∧ (packP b p).getLsbD 5 = true ∧
      (packP b p).getLsbD 6 = p.v ∧ (packP b p).getLsbD 7 = p.n := by
  simp [packP_eq_concat, BitVec.getElem_concat]

/-! ## Pushes and pulls (R165 to R168) -/

/-- An instruction of `len` bytes that pushes stores one stack byte and changes nothing else but `SP` and `pc` (R63). -/
theorem State.push_advance_stores {s : State} (h : s.mem.wf = true) (v : Byte) (len : Nat) :
    let t := (s.push v).advance len
    OneByteStored s t (stackByte s.sp) v ∧ t = { s with mem := t.mem, sp := s.sp - 1, pc := s.after len } :=
  ⟨State.oneByteStored_push h v, rfl⟩

/-- PLA is the load of `A` with the byte pulled, after the pull (R167). -/
theorem exec_pla_eq (s : State) : exec .pla s = .next { s with
    a := s.pulled, sp := s.sp + 1, p := flagsNZ s.p s.pulled, pc := s.after 1 } :=
  lda_eq s.pulled 1 s.pull

/-- PLP unpacks the byte pulled over the flags, after the pull (R168). -/
theorem exec_plp_eq (s : State) : exec .plp s = .next { s with
    sp := s.sp + 1, p := unpackP s.pulled s.p, pc := s.after 1 } := rfl

end Sys2Proof.Machine

namespace Sys2Proof.Proofs

open Sys2Proof Sys2Proof.Machine

/-- Settles O35: each of the two is a push, PHA of `A` and PHP of the packed status with Break 1. -/
theorem pushInstructionsStoreOneStackByte : Obligations.PushInstructionsStoreOneStackByte := by
  intro s b1 b2 hwf
  obtain ⟨storesA, frameA⟩ := State.push_advance_stores hwf s.a 1
  obtain ⟨storesP, frameP⟩ := State.push_advance_stores hwf (packP true s.p) 1
  exact ⟨decode_pha b1 b2, decode_php b1 b2, ⟨_, rfl, storesA, frameA⟩,
    ⟨_, packP true s.p, rfl, storesP, frameP, packP_getLsbD true s.p⟩⟩

/-- Settles O36: the byte pulled is the stack byte one above `SP`; PLA loads it, PLP unpacks it. -/
theorem pullInstructionsReadOneStackByte : Obligations.PullInstructionsReadOneStackByte := by
  intro s b1 b2
  rw [← State.pulled_eq]
  exact ⟨decode_pla b1 b2, decode_plp b1 b2, exec_pla_eq s, exec_plp_eq s⟩

/-- Settles O37: each instruction is one flag update, then the advance. -/
theorem flagInstructionsWriteOneFlag : Obligations.FlagInstructionsWriteOneFlag := fun _ b1 b2 =>
  ⟨⟨decode_clc b1 b2, rfl⟩, ⟨decode_sec b1 b2, rfl⟩, ⟨decode_cli b1 b2, rfl⟩, ⟨decode_sei b1 b2, rfl⟩,
    ⟨decode_cld b1 b2, rfl⟩, ⟨decode_sed b1 b2, rfl⟩, ⟨decode_clv b1 b2, rfl⟩⟩

end Sys2Proof.Proofs

/-! PROOFS, family 46_jump_subroutine: JMP, JSR, RTS and RTI. -/

namespace Sys2Proof.Machine

open Sys2Proof Sys2Proof.Claims

/-! ## Two pushes, and the word they push (R63, R187) -/

/-- The two bytes of a word, put together again (R57, R187). -/
theorem concat_highByte_lowByte (t : Addr) : concat (highByte t) (lowByte t) = t :=
  have adjacent : 8 = 0 + 8 := rfl
  (BitVec.extractLsb'_append_extractLsb'_eq_extractLsb' adjacent).trans BitVec.extractLsb'_eq_self

theorem stackByte_sub_one_ne (sp : Byte) : stackByte (sp - 1) ≠ stackByte sp := by
  simpa only [stackByte_eq_stackAddr] using stackAddr_sub_one_ne sp

/-- Two pushes store one byte at `SP` and the next one below it, modulo 256, and no other byte (R63). -/
theorem State.read_push_push {s : State} (h : s.mem.wf = true) (hi lo : Byte) :
    let t := (s.push hi).push lo
    t.read (stackByte s.sp) = hi ∧ t.read (stackByte (s.sp - 1)) = lo ∧
      (∀ other, other ≠ stackByte s.sp → other ≠ stackByte (s.sp - 1) → t.read other = s.read other) ∧
      t.mem.wf = true := by
  obtain ⟨first, others, wf⟩ := State.oneByteStored_push h hi
  obtain ⟨second, others', wf'⟩ := State.oneByteStored_push wf lo
  have kept := others' (stackByte s.sp) (stackByte_sub_one_ne s.sp).symm
  exact ⟨kept.trans first, second, fun other ne ne' => (others' other ne').trans (others other ne), wf'⟩

/-! ## Successive pulls (R64) -/

/-- The second of successive pulls reads the stack byte two above `SP`, modulo 256 (R64). -/
theorem State.pulled_pull (s : State) : s.pull.pulled = s.read (stackByte (s.sp + 2)) := by
  rw [State.pulled_eq, State.pull_sp, add_assoc]; rfl

/-- The third of successive pulls reads the stack byte three above `SP`, modulo 256 (R64). -/
theorem State.pulled_pull_pull (s : State) : s.pull.pull.pulled = s.read (stackByte (s.sp + 3)) := by
  rw [State.pulled_pull, State.pull_sp, add_assoc]; rfl

/-! ## The call and the returns (R187 to R189) -/

/-- The address of a JSR's own last byte, two after its opcode byte (R187). -/
theorem State.after_three_sub_one (s : State) : s.after 3 - 1 = s.pc + 2 :=
  add_sub_assoc s.pc 3 1

/-- JSR pushes the address of its own last byte and jumps (R187). -/
theorem exec_jsr_eq (b1 b2 : Byte) (s : State) : exec (.jsr b1 b2) s = .next { s with
    mem := ((s.push (highByte (s.pc + 2))).push (lowByte (s.pc + 2))).mem, sp := s.sp - 2, pc := b2 ++ b1 } := by
  have two : s.sp - 1 - 1 = s.sp - 2 := sub_sub s.sp 1 1
  rw [← State.after_three_sub_one, ← two]
  exact callTo_eq (eaAbsolute b1 b2) s

/-- RTS pulls the low byte, then the high byte, and adds 1 to the word (R188). -/
theorem exec_rts_eq (s : State) : exec .rts s = .next { s with
    sp := s.sp + 2, pc := concat (s.read (stackByte (s.sp + 2))) (s.read (stackByte (s.sp + 1))) + 1 } := by
  have two : s.sp + 1 + 1 = s.sp + 2 := add_assoc s.sp 1 1
  rw [← State.pulled_pull, ← State.pulled_eq, ← two]
  rfl

/-- RTI unpacks the first byte pulled and takes `pc` from the next two, adding nothing (R189). -/
theorem exec_rti_eq (s : State) : exec .rti s = .next { s with
    sp := s.sp + 3
    p := unpackP (s.read (stackByte (s.sp + 1))) s.p
    pc := concat (s.read (stackByte (s.sp + 3))) (s.read (stackByte (s.sp + 2))) } := by
  have three : s.sp + 1 + 1 + 1 = s.sp + 3 := by simp only [add_assoc]; rfl
  rw [← State.pulled_pull_pull, ← State.pulled_pull, ← State.pulled_eq, ← three]
  rfl

end Sys2Proof.Machine

namespace Sys2Proof.Proofs

open Sys2Proof Sys2Proof.Machine

/-- Settles O38: each encoding jumps to its effective address, Indirect's a word read in one page. -/
theorem jmpSetsOnlyThePc : Obligations.JmpSetsOnlyThePc := fun _ b1 b2 =>
  ⟨decode_jmpAbs b1 b2, decode_jmpInd b1 b2, rfl, rfl⟩

/-- Settles O39: JSR pushes a word as two bytes; the second push leaves the first one's byte. -/
theorem jsrPushesTheAddressOfItsLastByte : Obligations.JsrPushesTheAddressOfItsLastByte := by
  intro s b1 b2 hwf
  obtain ⟨high, low, others, wf⟩ := State.read_push_push hwf (highByte (s.pc + 2)) (lowByte (s.pc + 2))
  exact ⟨decode_jsr b1 b2, _, exec_jsr_eq b1 b2 s, high, low, others, wf, rfl⟩

/-- Settles O40: RTS is two pulls, RTI three, the first of them the status. -/
theorem returnsPullThePc : Obligations.ReturnsPullThePc := fun s b1 b2 =>
  ⟨decode_rts b1 b2, decode_rti b1 b2, exec_rts_eq s, exec_rti_eq s⟩

/-- Settles O41: RTS pulls the two bytes JSR pushed, which are the word `pc + 2` again, and adds 1. -/
theorem callThenReturnComesBack : Obligations.CallThenReturnComesBack := by
  intro s b1 b2 hwf
  obtain ⟨-, t, jsr, high, low, -, -, frame⟩ := jsrPushesTheAddressOfItsLastByte s b1 b2 hwf
  refine ⟨t, jsr, fun w hsp hhigh hlow => ⟨_, exec_rts_eq w, ?_⟩⟩
  have down : w.sp = s.sp - 2 := by rw [hsp, frame]
  have up : w.sp + 2 = s.sp := by rw [down]; exact sub_add_cancel s.sp 2
  have below : w.sp + 1 = s.sp - 1 := by rw [down]; bv_omega
  rw [up, below, hhigh, hlow, high, low]
  have word : concat ((s.pc + 2).extractLsb' 8 8) ((s.pc + 2).extractLsb' 0 8) = s.pc + 2 :=
    concat_highByte_lowByte (s.pc + 2)
  exact ⟨(congrArg (· + 1) word).trans (add_assoc s.pc 2 1), rfl⟩

end Sys2Proof.Proofs

/-! PROOFS, family 47_compare: CMP, CPX and CPY in all their encodings. -/

namespace Sys2Proof.Machine

open Sys2Proof Sys2Proof.Claims

/-- A compare as numbers: the adder on the complement with a carry in of 1 is the difference without a borrow (R195). -/
theorem compareWith_eq_difference (reg m : Byte) (len : Nat) (s : State) :
    compareWith reg m len s = .next { s with
      p := { s.p with c := decide (m.toNat ≤ reg.toNat), z := decide (reg = m), n := (reg - m).msb }
      pc := s.after len } := by
  have noBorrow : reg - m - BitVec.ofNat 8 (1 - true.toNat) = reg - m := BitVec.sub_zero _
  have equal : decide (reg - m = 0) = decide (reg = m) := decide_eq_decide.mpr sub_eq_zero
  rw [compareWith_eq, addCore_not_eq, noBorrow, ← equal]
  rfl

/-- A mnemonic that compares the register value `reg` does so in each encoding, with the byte that the operand loads. -/
theorem exec_compare_of_mem_loadRows {mn : Mnemonic} {s : State} {reg : Byte}
    (compares : ∀ m len, perform mn (.imm m) len s = compareWith reg m len s)
    {b1 b2 : Byte} {row : EncodingRow} (hrow : row ∈ loadRows b1 b2 mn) :
    decode row.opcode b1 b2 = .ok row.instr ∧ ∃ m, (row.operand b1 b2 s).load s = some m ∧
      exec row.instr s = .next { s with
        p := { s.p with c := decide (m.toNat ≤ reg.toNat), z := decide (reg = m), n := (reg - m).msb }
        pc := s.after row.length } := by
  obtain ⟨decodes, m, loads, performs⟩ := exec_of_mem_loadRows hrow s
  refine ⟨decodes, m, loads, ?_⟩
  rw [performs, compares, compareWith_eq_difference]

end Sys2Proof.Machine

namespace Sys2Proof.Proofs

open Sys2Proof Sys2Proof.Machine

/-- Settles O42: each of the three mnemonics is the shared compare of its own register. -/
theorem comparesSetCarryZeroNegative : Obligations.ComparesSetCarryZeroNegative := fun _ _ _ =>
  ⟨fun _ hrow => exec_compare_of_mem_loadRows (mn := .cmp) (fun _ _ => rfl) hrow,
    fun _ hrow => exec_compare_of_mem_loadRows (mn := .cpx) (fun _ _ => rfl) hrow,
    fun _ hrow => exec_compare_of_mem_loadRows (mn := .cpy) (fun _ _ => rfl) hrow⟩

end Sys2Proof.Proofs

/-! PROOFS, family 48_shift_rotate_incdec: the shifts, the rotates, INC and DEC in all their encodings, and the index
counts. -/

namespace Sys2Proof.Machine

open Sys2Proof Sys2Proof.Claims

/-! ## Read-modify-write in all its encodings (R200) -/

/-- The encodings of a read-modify-write mnemonic; none for any other mnemonic. -/
def modifyRows (mn : Mnemonic) (b1 b2 : Byte) : List EncodingRow :=
  match mn with
  | .asl => aslRows b1 b2
  | .lsr => lsrRows b1 b2
  | .rol => rolRows b1 b2
  | .ror => rorRows b1 b2
  | .inc => incRows b1 b2
  | .dec => decRows b1 b2
  | _ => []

/-- In each encoding the byte decodes to the row's instruction, which performs the mnemonic on the read-write location
that its operand is (R106). -/
theorem exec_of_mem_modifyRows {mn : Mnemonic} {b1 b2 : Byte} {row : EncodingRow} (hrow : row ∈ modifyRows mn b1 b2)
    (s : State) :
    decode row.opcode b1 b2 = .ok row.instr ∧ ∃ l : Place, row.operand b1 b2 s = l.operand ∧
      exec row.instr s = perform mn l.operand row.length s := by
  cases mn with
  | asl | lsr | rol | ror =>
    fin_cases hrow
    · exact ⟨by simp, .acc, rfl, rfl⟩
    all_goals exact ⟨by simp, .addr _, rfl, rfl⟩
  | inc | dec => fin_cases hrow <;> exact ⟨by simp, .addr _, rfl, rfl⟩
  | _ => cases hrow

@[simp] theorem Place.place_operand (l : Place) : l.operand.place = l := by
  cases l <;> rfl

/-- The next state of a read-modify-write on a location: the result `r` stored, Carry `c`, Zero and Negative of `r`. -/
def State.modify (l : Place) (r : Byte) (c : Bool) (len : Nat) (s : State) : State :=
  ((l.store r (s.setC c)).setNZ r).advance len

/-- Only the location, Carry, Zero, Negative and `pc` change. -/
theorem State.modify_eq (l : Place) (r : Byte) (c : Bool) (len : Nat) (s : State) :
    s.modify l r c len = { s with
      a := if l.operand = .acc then r else s.a
      mem := (s.modify l r c len).mem
      p := { flagsNZ s.p r with c := c }
      pc := s.after len } := by
  rw [State.modify, storeResult_eq]
  cases l <;> rfl

/-- The accumulator form leaves memory; the memory form stores one byte (R105). -/
theorem State.modify_stores {s : State} (h : s.mem.wf = true) (l : Place) (r : Byte) (c : Bool) (len : Nat) :
    l.operand = .acc ∧ (s.modify l r c len).mem = s.mem ∨
      ∃ ea, l.operand = .addr ea ∧ OneByteStored s (s.modify l r c len) ea r := by
  cases l with
  | acc => exact .inl ⟨rfl, rfl⟩
  | addr ea => exact .inr ⟨ea, rfl, State.oneByteStored_write h ea r⟩

theorem State.modify_carry (l : Place) (r : Byte) (c : Bool) (len : Nat) (s : State) :
    (s.modify l r c len).p.c = c := by
  rw [State.modify_eq]

/-- The location holds the result afterwards. -/
theorem State.load_modify {s : State} (h : s.mem.wf = true) (l : Place) (r : Byte) (c : Bool) (len : Nat) :
    l.load (s.modify l r c len) = r := by
  cases l with
  | acc => rfl
  | addr ea => exact State.read_write_same ea r h

/-- A mnemonic whose operation stores `result m C` to a location that holds `m`, and `carry m C` to Carry, does so in each
encoding. -/
theorem readModifyWrite_of_perform {mn : Mnemonic} {op : Place → Nat → State → Result}
    {result : Byte → Bool → Byte} {carry : Byte → Bool → Bool}
    (performs : ∀ o len s, perform mn o len s = op o.place len s)
    (modifies : ∀ l len s, op l len s =
      .next (s.modify l (result (l.load s) s.p.c) (carry (l.load s) s.p.c) len)) :
    ReadModifyWrite (modifyRows mn) result carry := by
  intro s b1 b2 hwf row hrow
  obtain ⟨decodes, l, operand, runs⟩ := exec_of_mem_modifyRows hrow s
  obtain ⟨loads, -⟩ := l.load_store_operand 0 s
  rw [operand, runs, performs, Place.place_operand, modifies]
  exact ⟨decodes, l.load s, _, loads, rfl, State.modify_eq l _ _ _ s, State.modify_stores hwf l _ _ _⟩

/-! ## The results as numbers (R201 to R206) -/

theorem carryByte_toNat (c : Bool) : (carryByte c).toNat = c.toNat := by
  cases c <;> rfl

theorem shiftLeft_one_eq_ofNat (m : Byte) : m <<< 1 = BitVec.ofNat 8 (m.toNat * 2) := by
  apply BitVec.eq_of_toNat_eq
  rw [BitVec.toNat_shiftLeft, Nat.shiftLeft_eq, BitVec.toNat_ofNat]

theorem shiftRight_one_eq_ofNat (m : Byte) : m >>> 1 = BitVec.ofNat 8 (m.toNat / 2) := by
  have := m.isLt
  apply BitVec.eq_of_toNat_eq
  rw [BitVec.toNat_ushiftRight, Nat.shiftRight_eq_div_pow, BitVec.toNat_ofNat]
  omega

theorem rolResult_eq_ofNat (m : Byte) (c : Bool) :
    m <<< 1 + carryByte c = BitVec.ofNat 8 (m.toNat * 2 % 256 + c.toNat) := by
  apply BitVec.eq_of_toNat_eq
  rw [BitVec.toNat_add, carryByte_toNat, BitVec.toNat_shiftLeft, Nat.shiftLeft_eq, BitVec.toNat_ofNat]

theorem rorResult_eq_ofNat (m : Byte) (c : Bool) :
    m >>> 1 + carryByte c <<< 7 = BitVec.ofNat 8 (m.toNat / 2 + c.toNat * 128) := by
  have := m.isLt
  have := c.toNat_le
  apply BitVec.eq_of_toNat_eq
  rw [BitVec.toNat_add, BitVec.toNat_shiftLeft, carryByte_toNat, BitVec.toNat_ushiftRight, Nat.shiftRight_eq_div_pow,
    Nat.shiftLeft_eq, BitVec.toNat_ofNat]
  omega

theorem add_one_eq_ofNat (m : Byte) : m + 1 = BitVec.ofNat 8 (m.toNat + 1) := by
  bv_omega

theorem sub_one_eq_ofNat (m : Byte) : m - 1 = BitVec.ofNat 8 (m.toNat + 255) := by
  bv_omega

theorem asl_eq_modify (l : Place) (len : Nat) (s : State) : asl l len s =
    .next (s.modify l (BitVec.ofNat 8 ((l.load s).toNat * 2)) ((l.load s).getLsbD 7) len) := by
  rw [← shiftLeft_one_eq_ofNat]; rfl

theorem lsr_eq_modify (l : Place) (len : Nat) (s : State) : lsr l len s =
    .next (s.modify l (BitVec.ofNat 8 ((l.load s).toNat / 2)) ((l.load s).getLsbD 0) len) := by
  rw [← shiftRight_one_eq_ofNat]; rfl

theorem rol_eq_modify (l : Place) (len : Nat) (s : State) : rol l len s =
    .next (s.modify l (BitVec.ofNat 8 ((l.load s).toNat * 2 % 256 + s.p.c.toNat)) ((l.load s).getLsbD 7) len) := by
  rw [← rolResult_eq_ofNat]; rfl

theorem ror_eq_modify (l : Place) (len : Nat) (s : State) : ror l len s =
    .next (s.modify l (BitVec.ofNat 8 ((l.load s).toNat / 2 + s.p.c.toNat * 128)) ((l.load s).getLsbD 0) len) := by
  rw [← rorResult_eq_ofNat]; rfl

theorem inc_eq_modify (l : Place) (len : Nat) (s : State) : inc l len s =
    .next (s.modify l (BitVec.ofNat 8 ((l.load s).toNat + 1)) s.p.c len) := by
  rw [← add_one_eq_ofNat]; exact inc_eq l len s

theorem dec_eq_modify (l : Place) (len : Nat) (s : State) : dec l len s =
    .next (s.modify l (BitVec.ofNat 8 ((l.load s).toNat + 255)) s.p.c len) := by
  rw [← sub_one_eq_ofNat]; exact dec_eq l len s

/-! ## ROL as a rotation of nine bits (R203) -/

/-- A rotation by one place takes each bit from the place below, and the lowest from the top. -/
theorem getLsbD_rotateLeft_one (w : BitVec 9) {i : Nat} (hi : i < 9) :
    (w.rotateLeft 1).getLsbD i = w.getLsbD ((i + 8) % 9) := by
  rw [BitVec.getLsbD_rotateLeft]
  cases i with
  | zero => rfl
  | succ i =>
    have below : (i + 1 + 8) % 9 = i := by omega
    simp [hi, below]

theorem getLsbD_iterate_rotateLeft_one (w : BitVec 9) (n : Nat) {i : Nat} (hi : i < 9) :
    ((BitVec.rotateLeft · 1)^[n] w).getLsbD i = w.getLsbD ((i + 8 * n) % 9) := by
  induction n generalizing i with
  | zero => rw [Nat.mul_zero, Nat.add_zero, Nat.mod_eq_of_lt hi]; rfl
  | succ n ih =>
    have places : ((i + 8) % 9 + 8 * n) % 9 = (i + 8 * (n + 1)) % 9 := by omega
    rw [Function.iterate_succ_apply', getLsbD_rotateLeft_one _ hi, ih (Nat.mod_lt _ (by decide)), places]

/-- Nine places are once around. -/
theorem iterate_rotateLeft_nine (w : BitVec 9) : (BitVec.rotateLeft · 1)^[9] w = w := by
  apply BitVec.eq_of_getLsbD_eq
  intro i hi
  have around : (i + 8 * 9) % 9 = i := by omega
  rw [getLsbD_iterate_rotateLeft_one w 9 hi, around]

/-- The byte ROL stores: bits 7 to 1 are the operand's 6 to 0, bit 0 is the old Carry. -/
theorem rolResult_eq_setWidth (m : Byte) (c : Bool) :
    BitVec.ofNat 8 (m.toNat * 2 % 256 + c.toNat) = (m.concat c).setWidth 8 := by
  apply BitVec.eq_of_toNat_eq
  rw [BitVec.toNat_setWidth, BitVec.toNat_concat, BitVec.toNat_ofNat]
  omega

/-- With Carry on top of the byte, ROL rotates: bit 7 goes to Carry, and Carry to bit 0. -/
theorem rotateLeft_cons (c : Bool) (m : Byte) :
    (BitVec.cons c m).rotateLeft 1 =
      BitVec.cons (m.getLsbD 7) (BitVec.ofNat 8 (m.toNat * 2 % 256 + c.toNat)) := by
  apply BitVec.eq_of_getLsbD_eq
  intro i hi
  rw [rolResult_eq_setWidth, getLsbD_rotateLeft_one _ hi, BitVec.getLsbD_cons, BitVec.getLsbD_cons]
  cases i with
  | zero => simp
  | succ i =>
    have below : (i + 1 + 8) % 9 = i := by omega
    rw [below]
    by_cases top : i = 7
    · simp [top]
    · have inByte : i + 1 < 8 := by omega
      have notCarry : i ≠ 8 := by omega
      simp [top, inByte, notCarry]

/-- Carry and the byte at a location as the nine bits that ROL rotates, Carry on top. -/
def rotationWord (l : Place) (s : State) : BitVec 9 := BitVec.cons s.p.c (l.load s)

/-- The nine bits determine the byte and Carry. -/
theorem load_and_carry_of_rotationWord_eq {l : Place} {s t : State} (h : rotationWord l t = rotationWord l s) :
    l.load t = l.load s ∧ t.p.c = s.p.c := by
  have byte := congrArg (BitVec.setWidth 8) h
  have carry := congrArg BitVec.msb h
  rw [rotationWord, rotationWord, BitVec.setWidth_cons, BitVec.setWidth_cons] at byte
  rw [rotationWord, rotationWord, BitVec.msb_cons, BitVec.msb_cons] at carry
  exact ⟨byte, carry⟩

theorem rol_rotates {s : State} (h : s.mem.wf = true) (l : Place) (len : Nat) :
    ∃ t, rol l len s = .next t ∧ t.mem.wf = true ∧ rotationWord l t = (rotationWord l s).rotateLeft 1 := by
  refine ⟨_, rol_eq_modify l len s, l.wf_store _ h, ?_⟩
  rw [rotationWord, rotationWord, rotateLeft_cons, State.modify_carry, State.load_modify h]

/-- Any number of ROLs completes and rotates as many times. -/
theorem repeatOp_rol_rotates (n : Nat) {s : State} (h : s.mem.wf = true) (l : Place) (len : Nat) :
    ∃ t, repeatOp (rol l len) n s = .next t ∧
      rotationWord l t = (BitVec.rotateLeft · 1)^[n] (rotationWord l s) := by
  induction n generalizing s with
  | zero => exact ⟨s, rfl, rfl⟩
  | succ n ih =>
    obtain ⟨t, rotates, wf, word⟩ := rol_rotates h l len
    obtain ⟨r, repeats, word'⟩ := ih wf
    refine ⟨r, ?_, ?_⟩
    · rw [repeatOp, rotates]
      exact repeats
    · rw [word', word]
      rfl

end Sys2Proof.Machine

namespace Sys2Proof.Proofs

open Sys2Proof Sys2Proof.Machine

/-- Settles O43: each of the four mnemonics is one read-modify-write of its operand's location. -/
theorem shiftsAndRotatesMoveOneBit : Obligations.ShiftsAndRotatesMoveOneBit :=
  ⟨readModifyWrite_of_perform (mn := .asl) (fun _ _ _ => rfl) asl_eq_modify,
    readModifyWrite_of_perform (mn := .lsr) (fun _ _ _ => rfl) lsr_eq_modify,
    readModifyWrite_of_perform (mn := .rol) (fun _ _ _ => rfl) rol_eq_modify,
    readModifyWrite_of_perform (mn := .ror) (fun _ _ _ => rfl) ror_eq_modify⟩

/-- Settles O44: each of the two is one read-modify-write that writes the Carry it finds. -/
theorem incAndDecCountMemory : Obligations.IncAndDecCountMemory :=
  ⟨readModifyWrite_of_perform (mn := .inc) (fun _ _ _ => rfl) inc_eq_modify,
    readModifyWrite_of_perform (mn := .dec) (fun _ _ _ => rfl) dec_eq_modify⟩

/-- Settles O46: each ROL rotates nine bits by one place, and nine places are once around. -/
theorem nineRotationsRestore : Obligations.NineRotationsRestore := by
  intro l len s hwf
  obtain ⟨t, repeats, word⟩ := repeatOp_rol_rotates 9 hwf l len
  rw [iterate_rotateLeft_nine] at word
  exact ⟨t, repeats, load_and_carry_of_rotationWord_eq word⟩

/-- Settles O45: each of the four is the load of its index register with the count. -/
theorem indexRegistersCount : Obligations.IndexRegistersCount := fun s b1 b2 =>
  ⟨decode_inx b1 b2, ldx_eq (s.x + 1) 1 s, decode_iny b1 b2, ldy_eq (s.y + 1) 1 s,
    decode_dex b1 b2, ldx_eq (s.x - 1) 1 s, decode_dey b1 b2, ldy_eq (s.y - 1) 1 s⟩

end Sys2Proof.Proofs

/-! PROOFS, family 49_nop_break_illegal: NOP and BRK. -/

namespace Sys2Proof.Proofs

open Sys2Proof Sys2Proof.Machine

/-- Settles O47: NOP is the advance by its one byte. -/
theorem nopOnlyAdvances : Obligations.NopOnlyAdvances := fun _ b1 b2 => ⟨decode_nop b1 b2, rfl⟩

/-- Settles O48: BRK is the halt and the advance by one byte, and its halt cause reads as `Halt`. -/
theorem brkHaltsTheUnit : Obligations.BrkHaltsTheUnit := fun s b1 b2 => ⟨decode_brk b1 b2, exec_brk s, rfl⟩

end Sys2Proof.Proofs

/-! PROOFS, family 60_exceptions: when a run returns `IllegalOpcode`. -/

namespace Sys2Proof.Machine

open Sys2Proof Sys2Proof.Claims

/-- The next step is the illegal-opcode step: the unit is Running with an unassigned byte at `pc` (R222). -/
def State.AtUnassigned (s : State) : Prop := s.runState = .running ∧ s.read s.pc ∈ illegalBytes

/-- One of the first `k` steps from `s` is the illegal-opcode step. -/
def TakesIllegalStep (k : Nat) (s : State) : Prop :=
  ∃ j t, j < k ∧ core.run j s = .next t ∧ t.AtUnassigned

theorem not_takesIllegalStep_zero (s : State) : ¬ TakesIllegalStep 0 s :=
  fun ⟨_, _, lt, _⟩ => Nat.not_lt_zero _ lt

/-- The first of `k + 1` steps is the illegal-opcode step, or one of the `k` after it is. -/
theorem takesIllegalStep_succ {k : Nat} {s t : State} (h : step s = .next t) :
    TakesIllegalStep (k + 1) s ↔ s.AtUnassigned ∨ TakesIllegalStep k t := by
  constructor
  · rintro ⟨j, r, lt, reached, fetches⟩
    cases j with
    | zero =>
      cases reached
      exact .inl fetches
    | succ j =>
      rw [run_succ_of_step h] at reached
      exact .inr ⟨j, r, Nat.lt_of_succ_lt_succ lt, reached, fetches⟩
  · rintro (fetches | ⟨j, r, lt, reached, fetches⟩)
    · exact ⟨0, s, k.succ_pos, rfl, fetches⟩
    · exact ⟨j + 1, r, Nat.succ_lt_succ lt, (run_succ_of_step h).trans reached, fetches⟩

theorem safeRun_zero {s : State} (h : s.result ≠ .illegalOpcode) : SafeRun 0 s := by
  intro j le
  obtain rfl := Nat.le_zero.mp le
  exact ⟨s, rfl, h⟩

/-- A run starts in a state whose own result counts. -/
theorem SafeRun.result_ne {k : Nat} {s : State} (h : SafeRun k s) : s.result ≠ .illegalOpcode := by
  obtain ⟨t, here, good⟩ := h 0 k.zero_le
  cases here
  exact good

theorem safeRun_succ {k : Nat} {s t : State} (h : step s = .next t) (good : s.result ≠ .illegalOpcode) :
    SafeRun (k + 1) s ↔ SafeRun k t := by
  constructor
  · intro safe j le
    obtain ⟨r, reached, goodThere⟩ := safe (j + 1) (Nat.succ_le_succ le)
    rw [run_succ_of_step h] at reached
    exact ⟨r, reached, goodThere⟩
  · intro safe j le
    cases j with
    | zero => exact ⟨s, rfl, good⟩
    | succ j =>
      obtain ⟨r, reached, goodThere⟩ := safe j (Nat.le_of_succ_le_succ le)
      exact ⟨r, (run_succ_of_step h).trans reached, goodThere⟩

/-- Unless the state already answers `IllegalOpcode`, its step does exactly if it is the illegal-opcode step (R77, R230). -/
theorem State.Inv.step_result {s : State} (hi : s.Inv) (good : s.result ≠ .illegalOpcode) :
    ∃ t, step s = .next t ∧ t.Inv ∧ (t.result = .illegalOpcode ↔ s.AtUnassigned) := by
  obtain ⟨t, ht, -, -, illegal, -⟩ := Proofs.stepReturnsOneOfThreeResults s hi.runningIff
  have notHalted : ¬ (s.runState = .halted ∧ s.haltCause = .illegal) :=
    fun ⟨_, cause⟩ => good (s.result_eq_illegalOpcode_iff.mpr cause)
  exact ⟨t, ht, Proofs.everyStepKeepsTheInvariant s t hi ht, illegal.trans (or_iff_left notHalted)⟩

/-- A run is safe exactly if none of its steps is the illegal-opcode step; by induction on the number of steps. -/
theorem State.Inv.not_safeRun_iff {s : State} (hi : s.Inv) (good : s.result ≠ .illegalOpcode) (k : Nat) :
    ¬ SafeRun k s ↔ TakesIllegalStep k s := by
  induction k generalizing s with
  | zero => exact iff_of_false (not_not_intro (safeRun_zero good)) (not_takesIllegalStep_zero s)
  | succ k ih =>
    obtain ⟨t, ht, hit, illegal⟩ := hi.step_result good
    rw [safeRun_succ ht good, takesIllegalStep_succ ht]
    by_cases unassigned : s.AtUnassigned
    · exact iff_of_true (fun safe => safe.result_ne (illegal.mpr unassigned)) (.inl unassigned)
    · rw [ih hit (mt illegal.mp unassigned), or_iff_right unassigned]

end Sys2Proof.Machine

namespace Sys2Proof.Proofs

open Sys2Proof Sys2Proof.Machine

/-- Settles O11: a Running state has no halt cause, so its own result is not `IllegalOpcode`. -/
theorem runIsSafeUnlessAnUnassignedByteIsFetched : Obligations.RunIsSafeUnlessAnUnassignedByteIsFetched := by
  intro s k hi running
  have good : s.result ≠ .illegalOpcode := by simp [hi.haltCause_of_running running]
  exact hi.not_safeRun_iff good k

end Sys2Proof.Proofs
